-- ==== Sys2Proof/Word.lean ====
section
/-! DEFINITION. Word.lean: the widths of the block's values (00_scope.md R5, R7, R8). -/

namespace Sys2Proof

/-- `u8`: one byte of a side (10_state.md R22). -/
abbrev Byte := BitVec 8

/-- `u16`: the register payload (00_scope.md R5). -/
abbrev Half := BitVec 16

/-- `u32`: a frame, bit 31 the most significant (00_scope.md R7). -/
abbrev Frame := BitVec 32

/-- `u7`: a sensor register address (00_scope.md R5). -/
abbrev Addr := BitVec 7

/-- The timestamps that the fixed names of the model stand at. The type `TS` of timestamps is a parameter of
the model (00_scope.md R6, D4): every definition that touches a timestamp takes `TS` as an argument. Where no
argument can be given (`exec`, `step`, `State.reset`, `core`), it is this type: an unbounded supply of labels
with equality alone, no number, no order, no arithmetic (entry 3). -/
structure Stamp where
  label : Nat
deriving DecidableEq, Repr

/-- The label that stands where no timestamp has been given: `t_start` after reset, and the words of events
whose row does not read one. DESIGN CHOICE (entry 4): one fixed label. -/
def Stamp.unset : Stamp := ⟨0⟩

/-- `Q`, the exact rationals (00_scope.md R8, 45_unit_conversion.md R220). -/
abbrev Q := Rat

end Sys2Proof
end

