-- ==== Sys2Proof/Config.lean ====
section
/-! DEFINITION. Config.lean: what is fixed before the first event: the DecoderConfig of 10_state.md R30
to R37, the parameters of 00_scope.md R6, the types of the register table (42_register_map.md R120), and
the free value of a buffer cell that holds no value (93_implementation_defined.md U11). -/

namespace Sys2Proof

/-- `cfg.DATA_TYPE`, the data-access mode: eight variants, in the order of 10_state.md R31. -/
inductive DataType where
  | default | xy | xz | zy | xt | yt | zt | am
deriving DecidableEq, Repr

/-- `cfg.BR_X`, `BR_Y`, `BR_Z`: seven variants in the order of 10_state.md R32. Code 7 has no
constructor (D34). -/
inductive BrRange where
  | notSelected | mT25 | mT50 | mT100 | mT75 | mT150 | mT300
deriving DecidableEq, Repr

/-- A magnetic axis (10_state.md R32). -/
inductive Axis where
  | x | y | z
deriving DecidableEq, Repr

/-- The DecoderConfig `cfg` (10_state.md R30 to R37), one field per field of the spec. -/
structure DecoderConfig where
  /-- `DATA_TYPE` (R31). -/
  dataType : DataType
  /-- `BR_X` (R32). -/
  brX : BrRange
  /-- `BR_Y` (R32). -/
  brY : BrRange
  /-- `BR_Z` (R32). -/
  brZ : BrRange
  /-- `CONV_EN` (R33). -/
  convEn : Bool
  /-- `CRC_CHECK_EN` (R34). -/
  crcCheckEn : Bool
  /-- `STAT_NIBBLE_EN` (R35). -/
  statNibbleEn : Bool
  /-- `STAT8_EN` (R36). -/
  stat8En : Bool
  /-- `EARLY_FINALIZE` (R37). -/
  earlyFinalize : Bool
deriving DecidableEq, Repr

/-- `ERROR_BIT_SOURCE` (00_scope.md R6, D20). -/
inductive ErrorBitSource where
  | mosi | miso
deriving DecidableEq, Repr

/-- The names bound to register addresses (42_register_map.md R124). `other` serves a REGMAP that is not
the default one (entry 15). -/
inductive RegName where
  | DEVICE_CONFIG | SENSOR_CONFIG | SYSTEM_CONFIG | ALERT_CONFIG | X_THRX_CONFIG | Y_THRX_CONFIG
  | Z_THRX_CONFIG | T_THRX_CONFIG | CONV_STATUS | X_CH_RESULT | Y_CH_RESULT | Z_CH_RESULT
  | TEMP_RESULT | AFE_STATUS | SYS_STATUS | TEST_CONFIG | OSC_MONITOR | MAG_GAIN_CONFIG
  | MAG_OFFSET_CONFIG | ANGLE_RESULT | MAGNITUDE_RESULT
  | other (n : Nat)
deriving DecidableEq, Repr

/-- The field identifiers of the register rules (42_register_map.md R125 to R145). `other` serves a
REGMAP that is not the default one (entry 15). -/
inductive FieldName where
  | RSVD_15 | CONV_AVG | RSVD_11_10 | MAG_TEMPCO | RSVD_7 | OPERATING_MODE | T_CH_EN | T_RATE
  | T_HLT_EN | RSVD_0 | ANGLE_EN | SLEEPTIME | MAG_CH_EN | Z_RANGE | Y_RANGE | X_RANGE | RSVD_15_14
  | DIAG_SEL | RSVD_11 | TRIGGER_MODE | DATA_TYPE | DIAG_EN | RSVD_4_3 | Z_HLT_EN | Y_HLT_EN
  | X_HLT_EN | ALERT_LATCH | ALERT_MODE | STATUS_ALRT | RSVD_10_9 | RSLT_ALRT | RSVD_7_6
  | THRX_COUNT | T_THRX_ALRT | Z_THRX_ALRT | Y_THRX_ALRT | X_THRX_ALRT | X_HI_THRESHOLD
  | X_LO_THRESHOLD | Y_HI_THRESHOLD | Y_LO_THRESHOLD | Z_HI_THRESHOLD | Z_LO_THRESHOLD
  | T_HI_THRESHOLD | T_LO_THRESHOLD | RDY | A | T | Z | Y | X | SET_COUNT | RSVD_3_2 | ALRT_STATUS
  | X_CH_RESULT | Y_CH_RESULT | Z_CH_RESULT | TEMP_RESULT | CFG_RESET | RSVD_14_13 | SENS_STAT
  | TEMP_STAT | ZHS_STAT | YHS_STAT | XHS_STAT | RSVD_7_2 | TRIM_STAT | LDO_STAT | ALRT_LVL
  | ALRT_DRV | SDO_DRV | CRC_STAT | FRAME_STAT | OPERATING_STAT | VCC_OV | VCC_UV | TEMP_THX
  | ZCH_THX | YCH_THX | XCH_THX | RSVD_15_6 | VER | RSVD_3 | CRC_DIS | OSC_CNT_CTL | OSC_COUNT
  | GAIN_SELECTION | RSVD_13_11 | GAIN_VALUE | OFFSET_SELECTION | OFFSET_VALUE1 | OFFSET_VALUE2
  | RSVD_15_13 | ANGLE_RESULT | MAGNITUDE_RESULT
  | other (n : Nat)
deriving DecidableEq, Repr

/-- A field descriptor (42_register_map.md R120). The bounds of R120 stand in the type, so that the
contract of sign extension (40_bit_utilities.md R103, R105) holds wherever a descriptor is used. -/
structure FieldDesc where
  fname : FieldName
  lsb : Nat
  width : Nat
  signed : Bool
  reserved : Bool
  bounds : 1 ≤ width ∧ lsb + width ≤ 16
deriving DecidableEq, Repr

/-- A register descriptor (42_register_map.md R120): most significant field first. -/
structure RegDesc where
  addr : Addr
  name : RegName
  fields : List FieldDesc
deriving DecidableEq, Repr

/-- `REGMAP`: one descriptor for each address `0x00..0x14` (42_register_map.md R120). -/
abbrev RegMap := Vector RegDesc 21

/-- The parameters of 00_scope.md R6 but for the type `TS`, which is the type argument of `State`. -/
structure Params where
  /-- `REGMAP` (D22). -/
  regmap : RegMap
  /-- `ERROR_BIT_SOURCE` (D20). -/
  errorBitSource : ErrorBitSource
  /-- `EMPTY_FINALIZE_EMITS` (D10). -/
  emptyFinalizeEmits : Bool
  /-- `THRESH_RANGE_SHARED_X` (D30). -/
  threshRangeSharedX : Bool
deriving DecidableEq, Repr

/-- The two sides of a transaction (43_frame_assembler.md R164). -/
inductive Side where
  | mosi | miso
deriving DecidableEq, Repr

/-- FREE VALUE (entry 5): the byte that a cell holding no value would give, were one ever read. The spec
leaves it open (93_implementation_defined.md U11, "any value"). It has no body that a proof can see. -/
opaque Config.unspecifiedCell : Side → Nat → Byte

end Sys2Proof
end

