-- ==== Sys2Proof/Syntax.lean ====
section
/-! DEFINITION. Syntax.lean: the input event and the instruction type. One constructor of `Instr` for each
row of spec/opcode_table.json: seven EVENT rows, 52 MOSI_FRAME rows, eight DATA_TYPE rows (30_encoding.md
R81). -/

namespace Sys2Proof

/-- The two resting states of the state machine (10_state.md R21). -/
inductive Fsm where
  | waitEnable | accumulating
deriving DecidableEq, Repr

/-- An input event, the tuple of 30_encoding.md R71, over any type `TS` of timestamps (00_scope.md R6). -/
structure Event (TS : Type := Stamp) where
  /-- 0 ENABLE, 1 RESULT, 2 DISABLE, 3 reserved. -/
  kind : BitVec 2
  /-- The opaque timestamp. -/
  ts : TS
  mosiValid : Bool
  mosi : Byte
  misoValid : Bool
  miso : Byte
deriving DecidableEq, Repr

/-- The operations of the block (00_scope.md section 1: what plays the part of instructions).
Operands: `ts` a timestamp; `mosi`, `miso` the optional bytes of a RESULT; `data`, `cmd`, `crc` bits 23:8,
7:4 and 3:0 of the MOSI frame (30_encoding.md R72); `addr` its bits 30:24, where one row covers several
addresses. A DATA_TYPE row takes its operand, the MISO frame, from the transaction being finalized
(44_mode_decoders.md R191 to R198). `TS` is the type of timestamps (00_scope.md R6). -/
inductive Instr (TS : Type := Stamp) where
  /-- R161: ENABLE in WAIT_ENABLE. -/
  | enable (ts : TS)
  /-- R167: ENABLE in ACCUMULATING. -/
  | enableRestart (ts : TS)
  /-- R162: RESULT in WAIT_ENABLE. -/
  | resultIgnored
  /-- R165: RESULT in ACCUMULATING. -/
  | result (ts : TS) (mosi miso : Option Byte)
  /-- R163: DISABLE in WAIT_ENABLE. -/
  | disableIgnored
  /-- R166: DISABLE in ACCUMULATING. -/
  | disable (ts : TS)
  /-- R168: the reserved event kind. -/
  | reservedKind3
  /-- R125: WR DEVICE_CONFIG, address 0x00. -/
  | wrDeviceConfig (data : Half) (cmd crc : BitVec 4)
  /-- R126: WR SENSOR_CONFIG, address 0x01. -/
  | wrSensorConfig (data : Half) (cmd crc : BitVec 4)
  /-- R127: WR SYSTEM_CONFIG, address 0x02. -/
  | wrSystemConfig (data : Half) (cmd crc : BitVec 4)
  /-- R128: WR ALERT_CONFIG, address 0x03. -/
  | wrAlertConfig (data : Half) (cmd crc : BitVec 4)
  /-- R129: WR X_THRX_CONFIG, address 0x04. -/
  | wrXThrxConfig (data : Half) (cmd crc : BitVec 4)
  /-- R130: WR Y_THRX_CONFIG, address 0x05. -/
  | wrYThrxConfig (data : Half) (cmd crc : BitVec 4)
  /-- R131: WR Z_THRX_CONFIG, address 0x06. -/
  | wrZThrxConfig (data : Half) (cmd crc : BitVec 4)
  /-- R132: WR T_THRX_CONFIG, address 0x07. -/
  | wrTThrxConfig (data : Half) (cmd crc : BitVec 4)
  /-- R133: WR CONV_STATUS, address 0x08. -/
  | wrConvStatus (data : Half) (cmd crc : BitVec 4)
  /-- R134: WR X_CH_RESULT, address 0x09. -/
  | wrXChResult (data : Half) (cmd crc : BitVec 4)
  /-- R135: WR Y_CH_RESULT, address 0x0A. -/
  | wrYChResult (data : Half) (cmd crc : BitVec 4)
  /-- R136: WR Z_CH_RESULT, address 0x0B. -/
  | wrZChResult (data : Half) (cmd crc : BitVec 4)
  /-- R137: WR TEMP_RESULT, address 0x0C. -/
  | wrTempResult (data : Half) (cmd crc : BitVec 4)
  /-- R138: WR AFE_STATUS, address 0x0D. -/
  | wrAfeStatus (data : Half) (cmd crc : BitVec 4)
  /-- R139: WR SYS_STATUS, address 0x0E. -/
  | wrSysStatus (data : Half) (cmd crc : BitVec 4)
  /-- R140: WR TEST_CONFIG, address 0x0F. -/
  | wrTestConfig (data : Half) (cmd crc : BitVec 4)
  /-- R141: WR OSC_MONITOR, address 0x10. -/
  | wrOscMonitor (data : Half) (cmd crc : BitVec 4)
  /-- R142: WR MAG_GAIN_CONFIG, address 0x11. -/
  | wrMagGainConfig (data : Half) (cmd crc : BitVec 4)
  /-- R143: WR MAG_OFFSET_CONFIG, address 0x12. -/
  | wrMagOffsetConfig (data : Half) (cmd crc : BitVec 4)
  /-- R144: WR ANGLE_RESULT, address 0x13. -/
  | wrAngleResult (data : Half) (cmd crc : BitVec 4)
  /-- R145: WR MAGNITUDE_RESULT, address 0x14. -/
  | wrMagnitudeResult (data : Half) (cmd crc : BitVec 4)
  /-- R121: WR of the unknown address 0x15. -/
  | wrUnknown15 (data : Half) (cmd crc : BitVec 4)
  /-- R121: WR of an unknown address 0x16 to 0x17. -/
  | wrUnknown16 (addr : Addr) (data : Half) (cmd crc : BitVec 4)
  /-- R121: WR of an unknown address 0x18 to 0x1F. -/
  | wrUnknown18 (addr : Addr) (data : Half) (cmd crc : BitVec 4)
  /-- R121: WR of an unknown address 0x20 to 0x3F. -/
  | wrUnknown20 (addr : Addr) (data : Half) (cmd crc : BitVec 4)
  /-- R121: WR of an unknown address 0x40 to 0x7F. -/
  | wrUnknown40 (addr : Addr) (data : Half) (cmd crc : BitVec 4)
  /-- R125: RD DEVICE_CONFIG, address 0x00. -/
  | rdDeviceConfig (data : Half) (cmd crc : BitVec 4)
  /-- R126: RD SENSOR_CONFIG, address 0x01. -/
  | rdSensorConfig (data : Half) (cmd crc : BitVec 4)
  /-- R127: RD SYSTEM_CONFIG, address 0x02. -/
  | rdSystemConfig (data : Half) (cmd crc : BitVec 4)
  /-- R128: RD ALERT_CONFIG, address 0x03. -/
  | rdAlertConfig (data : Half) (cmd crc : BitVec 4)
  /-- R129: RD X_THRX_CONFIG, address 0x04. -/
  | rdXThrxConfig (data : Half) (cmd crc : BitVec 4)
  /-- R130: RD Y_THRX_CONFIG, address 0x05. -/
  | rdYThrxConfig (data : Half) (cmd crc : BitVec 4)
  /-- R131: RD Z_THRX_CONFIG, address 0x06. -/
  | rdZThrxConfig (data : Half) (cmd crc : BitVec 4)
  /-- R132: RD T_THRX_CONFIG, address 0x07. -/
  | rdTThrxConfig (data : Half) (cmd crc : BitVec 4)
  /-- R133: RD CONV_STATUS, address 0x08. -/
  | rdConvStatus (data : Half) (cmd crc : BitVec 4)
  /-- R134: RD X_CH_RESULT, address 0x09. -/
  | rdXChResult (data : Half) (cmd crc : BitVec 4)
  /-- R135: RD Y_CH_RESULT, address 0x0A. -/
  | rdYChResult (data : Half) (cmd crc : BitVec 4)
  /-- R136: RD Z_CH_RESULT, address 0x0B. -/
  | rdZChResult (data : Half) (cmd crc : BitVec 4)
  /-- R137: RD TEMP_RESULT, address 0x0C. -/
  | rdTempResult (data : Half) (cmd crc : BitVec 4)
  /-- R138: RD AFE_STATUS, address 0x0D. -/
  | rdAfeStatus (data : Half) (cmd crc : BitVec 4)
  /-- R139: RD SYS_STATUS, address 0x0E. -/
  | rdSysStatus (data : Half) (cmd crc : BitVec 4)
  /-- R140: RD TEST_CONFIG, address 0x0F. -/
  | rdTestConfig (data : Half) (cmd crc : BitVec 4)
  /-- R141: RD OSC_MONITOR, address 0x10. -/
  | rdOscMonitor (data : Half) (cmd crc : BitVec 4)
  /-- R142: RD MAG_GAIN_CONFIG, address 0x11. -/
  | rdMagGainConfig (data : Half) (cmd crc : BitVec 4)
  /-- R143: RD MAG_OFFSET_CONFIG, address 0x12. -/
  | rdMagOffsetConfig (data : Half) (cmd crc : BitVec 4)
  /-- R144: RD ANGLE_RESULT, address 0x13. -/
  | rdAngleResult (data : Half) (cmd crc : BitVec 4)
  /-- R145: RD MAGNITUDE_RESULT, address 0x14. -/
  | rdMagnitudeResult (data : Half) (cmd crc : BitVec 4)
  /-- R121: RD of the unknown address 0x15. -/
  | rdUnknown15 (data : Half) (cmd crc : BitVec 4)
  /-- R121: RD of an unknown address 0x16 to 0x17. -/
  | rdUnknown16 (addr : Addr) (data : Half) (cmd crc : BitVec 4)
  /-- R121: RD of an unknown address 0x18 to 0x1F. -/
  | rdUnknown18 (addr : Addr) (data : Half) (cmd crc : BitVec 4)
  /-- R121: RD of an unknown address 0x20 to 0x3F. -/
  | rdUnknown20 (addr : Addr) (data : Half) (cmd crc : BitVec 4)
  /-- R121: RD of an unknown address 0x40 to 0x7F. -/
  | rdUnknown40 (addr : Addr) (data : Half) (cmd crc : BitVec 4)
  /-- R191: the DATA_TYPE row DEFAULT. -/
  | misoDefault
  /-- R192: the DATA_TYPE row XY. -/
  | misoXy
  /-- R193: the DATA_TYPE row XZ. -/
  | misoXz
  /-- R194: the DATA_TYPE row ZY. -/
  | misoZy
  /-- R195: the DATA_TYPE row XT. -/
  | misoXt
  /-- R196: the DATA_TYPE row YT. -/
  | misoYt
  /-- R197: the DATA_TYPE row ZT. -/
  | misoZt
  /-- R198: the DATA_TYPE row AM. -/
  | misoAm
deriving DecidableEq, Repr

end Sys2Proof
end

