-- ==== Sys2Proof/WellFormed.lean ====
section
/-! DEFINITION. WellFormed.lean: which instruction terms stand for a word. Operand widths are in the
types; what is left is that a row covering several unknown addresses carries an address of its own block
(30_encoding.md R81, spec/opcode_table.json). -/

namespace Sys2Proof

variable {TS : Type}

/-- The address lies in the block `lo..hi` of the row. -/
def Addr.inBlock (a : Addr) (lo hi : Nat) : Bool := decide (lo ≤ a.toNat) && decide (a.toNat ≤ hi)

/-- The well-formed instructions: exactly those that some word decodes to. -/
def Instr.wellFormed : Instr TS → Bool
  | .enable _ => true
  | .enableRestart _ => true
  | .resultIgnored => true
  | .result _ _ _ => true
  | .disableIgnored => true
  | .disable _ => true
  | .reservedKind3 => true
  | .wrDeviceConfig _ _ _ => true
  | .wrSensorConfig _ _ _ => true
  | .wrSystemConfig _ _ _ => true
  | .wrAlertConfig _ _ _ => true
  | .wrXThrxConfig _ _ _ => true
  | .wrYThrxConfig _ _ _ => true
  | .wrZThrxConfig _ _ _ => true
  | .wrTThrxConfig _ _ _ => true
  | .wrConvStatus _ _ _ => true
  | .wrXChResult _ _ _ => true
  | .wrYChResult _ _ _ => true
  | .wrZChResult _ _ _ => true
  | .wrTempResult _ _ _ => true
  | .wrAfeStatus _ _ _ => true
  | .wrSysStatus _ _ _ => true
  | .wrTestConfig _ _ _ => true
  | .wrOscMonitor _ _ _ => true
  | .wrMagGainConfig _ _ _ => true
  | .wrMagOffsetConfig _ _ _ => true
  | .wrAngleResult _ _ _ => true
  | .wrMagnitudeResult _ _ _ => true
  | .wrUnknown15 _ _ _ => true
  | .wrUnknown16 a _ _ _ => Addr.inBlock a 0x16 0x17
  | .wrUnknown18 a _ _ _ => Addr.inBlock a 0x18 0x1F
  | .wrUnknown20 a _ _ _ => Addr.inBlock a 0x20 0x3F
  | .wrUnknown40 a _ _ _ => Addr.inBlock a 0x40 0x7F
  | .rdDeviceConfig _ _ _ => true
  | .rdSensorConfig _ _ _ => true
  | .rdSystemConfig _ _ _ => true
  | .rdAlertConfig _ _ _ => true
  | .rdXThrxConfig _ _ _ => true
  | .rdYThrxConfig _ _ _ => true
  | .rdZThrxConfig _ _ _ => true
  | .rdTThrxConfig _ _ _ => true
  | .rdConvStatus _ _ _ => true
  | .rdXChResult _ _ _ => true
  | .rdYChResult _ _ _ => true
  | .rdZChResult _ _ _ => true
  | .rdTempResult _ _ _ => true
  | .rdAfeStatus _ _ _ => true
  | .rdSysStatus _ _ _ => true
  | .rdTestConfig _ _ _ => true
  | .rdOscMonitor _ _ _ => true
  | .rdMagGainConfig _ _ _ => true
  | .rdMagOffsetConfig _ _ _ => true
  | .rdAngleResult _ _ _ => true
  | .rdMagnitudeResult _ _ _ => true
  | .rdUnknown15 _ _ _ => true
  | .rdUnknown16 a _ _ _ => Addr.inBlock a 0x16 0x17
  | .rdUnknown18 a _ _ _ => Addr.inBlock a 0x18 0x1F
  | .rdUnknown20 a _ _ _ => Addr.inBlock a 0x20 0x3F
  | .rdUnknown40 a _ _ _ => Addr.inBlock a 0x40 0x7F
  | .misoDefault => true
  | .misoXy => true
  | .misoXz => true
  | .misoZy => true
  | .misoXt => true
  | .misoYt => true
  | .misoZt => true
  | .misoAm => true

end Sys2Proof
end

