-- ==== Sys2Proof/Decode.lean ====
section
/-! DEFINITION. Decode.lean: the decode map of 30_encoding.md R81 and, after it, the encoder written from
the same tables. -/

namespace Sys2Proof

variable {TS : Type}

/-! ## Fields of the MOSI frame (30_encoding.md R72) -/

/-- `M[31]`, the direction flag: 1 read, 0 write (R72, R173). -/
def mosiRw (m : Frame) : Bool := m.getLsbD 31

/-- `M[30:24]`, the register address (R72, R174). -/
def mosiAddr (m : Frame) : Addr := m.extractLsb' 24 7

/-- `M[23:8]`, the write data (R72, R75). -/
def mosiData (m : Frame) : Half := m.extractLsb' 8 16

/-- `M[7:4]`, the command bits (R72). -/
def mosiCmd (m : Frame) : BitVec 4 := m.extractLsb' 4 4

/-- `M[3:0]`, the transmitted CRC (R72, R76). -/
def mosiCrc (m : Frame) : BitVec 4 := m.extractLsb' 0 4

/-- A MOSI frame from its fields (R72). -/
def mosiFrameOf (rw : Bool) (addr : Addr) (data : Half) (cmd crc : BitVec 4) : Frame :=
  BitVec.ofBool rw ++ addr ++ data ++ cmd ++ crc

/-- Big-endian assembly of four bytes, the first the most significant (20_memory.md R54). -/
def frameOfBytes (b0 b1 b2 b3 : Byte) : Frame := b0 ++ b1 ++ b2 ++ b3

/-- The four bytes of a frame in the order they travel (20_memory.md R54). -/
def bytesOfFrame (m : Frame) : List Byte :=
  [m.extractLsb' 24 8, m.extractLsb' 16 8, m.extractLsb' 8 8, m.extractLsb' 0 8]

/-! ## The decoders of the three formats -/

/-- The EVENT rows: selected by the state of the machine and the event's kind (43_frame_assembler.md
R160). A side whose valid bit is 0 delivers no byte (30_encoding.md R71). -/
def decodeEvent (fsm : Fsm) (ev : Event TS) : Instr TS :=
  match ev.kind.toNat, fsm with
  | 0, .waitEnable => .enable ev.ts
  | 0, .accumulating => .enableRestart ev.ts
  | 1, .waitEnable => .resultIgnored
  | 1, .accumulating =>
    .result ev.ts (if ev.mosiValid then some ev.mosi else none) (if ev.misoValid then some ev.miso else none)
  | 2, .waitEnable => .disableIgnored
  | 2, .accumulating => .disable ev.ts
  | _, _ => .reservedKind3

/-- The WR rows of format MOSI_FRAME, by address (R81). -/
def decodeWrite (addr : Addr) (data : Half) (cmd crc : BitVec 4) : Instr TS :=
  match addr.toNat with
  | 0 => .wrDeviceConfig data cmd crc
  | 1 => .wrSensorConfig data cmd crc
  | 2 => .wrSystemConfig data cmd crc
  | 3 => .wrAlertConfig data cmd crc
  | 4 => .wrXThrxConfig data cmd crc
  | 5 => .wrYThrxConfig data cmd crc
  | 6 => .wrZThrxConfig data cmd crc
  | 7 => .wrTThrxConfig data cmd crc
  | 8 => .wrConvStatus data cmd crc
  | 9 => .wrXChResult data cmd crc
  | 10 => .wrYChResult data cmd crc
  | 11 => .wrZChResult data cmd crc
  | 12 => .wrTempResult data cmd crc
  | 13 => .wrAfeStatus data cmd crc
  | 14 => .wrSysStatus data cmd crc
  | 15 => .wrTestConfig data cmd crc
  | 16 => .wrOscMonitor data cmd crc
  | 17 => .wrMagGainConfig data cmd crc
  | 18 => .wrMagOffsetConfig data cmd crc
  | 19 => .wrAngleResult data cmd crc
  | 20 => .wrMagnitudeResult data cmd crc
  | 21 => .wrUnknown15 data cmd crc
  | n =>
    if n ≤ 0x17 then .wrUnknown16 addr data cmd crc
    else if n ≤ 0x1F then .wrUnknown18 addr data cmd crc
    else if n ≤ 0x3F then .wrUnknown20 addr data cmd crc
    else .wrUnknown40 addr data cmd crc

/-- The RD rows of format MOSI_FRAME, by address (R81). -/
def decodeRead (addr : Addr) (data : Half) (cmd crc : BitVec 4) : Instr TS :=
  match addr.toNat with
  | 0 => .rdDeviceConfig data cmd crc
  | 1 => .rdSensorConfig data cmd crc
  | 2 => .rdSystemConfig data cmd crc
  | 3 => .rdAlertConfig data cmd crc
  | 4 => .rdXThrxConfig data cmd crc
  | 5 => .rdYThrxConfig data cmd crc
  | 6 => .rdZThrxConfig data cmd crc
  | 7 => .rdTThrxConfig data cmd crc
  | 8 => .rdConvStatus data cmd crc
  | 9 => .rdXChResult data cmd crc
  | 10 => .rdYChResult data cmd crc
  | 11 => .rdZChResult data cmd crc
  | 12 => .rdTempResult data cmd crc
  | 13 => .rdAfeStatus data cmd crc
  | 14 => .rdSysStatus data cmd crc
  | 15 => .rdTestConfig data cmd crc
  | 16 => .rdOscMonitor data cmd crc
  | 17 => .rdMagGainConfig data cmd crc
  | 18 => .rdMagOffsetConfig data cmd crc
  | 19 => .rdAngleResult data cmd crc
  | 20 => .rdMagnitudeResult data cmd crc
  | 21 => .rdUnknown15 data cmd crc
  | n =>
    if n ≤ 0x17 then .rdUnknown16 addr data cmd crc
    else if n ≤ 0x1F then .rdUnknown18 addr data cmd crc
    else if n ≤ 0x3F then .rdUnknown20 addr data cmd crc
    else .rdUnknown40 addr data cmd crc

/-- The MOSI_FRAME rows: the top byte selects the row (R81). Every 32-bit value is a MOSI frame (R83). -/
def decodeMosi (m : Frame) : Instr TS :=
  if mosiRw m then decodeRead (mosiAddr m) (mosiData m) (mosiCmd m) (mosiCrc m)
  else decodeWrite (mosiAddr m) (mosiData m) (mosiCmd m) (mosiCrc m)

/-- The code of a data-access mode (10_state.md R31, D14). -/
def DataType.code : DataType → BitVec 3
  | .default => 0 | .xy => 1 | .xz => 2 | .zy => 3 | .xt => 4 | .yt => 5 | .zt => 6 | .am => 7

/-- The data-access mode of a code: all eight codes are legal (10_state.md R31). -/
def DataType.ofCode (c : BitVec 3) : DataType :=
  match c.toNat with
  | 0 => .default | 1 => .xy | 2 => .xz | 3 => .zy | 4 => .xt | 5 => .yt | 6 => .zt | _ => .am

/-- The DATA_TYPE rows (44_mode_decoders.md R190). -/
def decodeDataType : DataType → Instr TS
  | .default => .misoDefault | .xy => .misoXy | .xz => .misoXz | .zy => .misoZy
  | .xt => .misoXt | .yt => .misoYt | .zt => .misoZt | .am => .misoAm

/-! ## One decoder for all three formats -/

/-- What the block decodes: an event in a state of the machine, the bytes of one side, or the configured
data type code (30_encoding.md R70, R81). -/
inductive Code (TS : Type := Stamp) where
  | event (fsm : Fsm) (ev : Event TS)
  | frame (bytes : List Byte)
  | dataType (code : BitVec 3)
deriving DecidableEq, Repr

/-- Why bytes are no frame (20_memory.md R56): raised by `decode`; safe, the block reports it per side. -/
inductive DecodeError where
  | lengthError (count : Nat)
deriving DecidableEq, Repr

/-- The decoder: total on any bytes. A sequence of other than four bytes is rejected by name ("a Frame is
only constructible from exactly 4 bytes", 20_memory.md R56). -/
def decode : Code TS → Except DecodeError (Instr TS)
  | .event fsm ev => .ok (decodeEvent fsm ev)
  | .frame [b0, b1, b2, b3] => .ok (decodeMosi (frameOfBytes b0 b1 b2 b3))
  | .frame bytes => .error (.lengthError bytes.length)
  | .dataType c => .ok (decodeDataType (DataType.ofCode c))

/-! ## The encoder -/

/-- An event of the given kind with no bytes (30_encoding.md R71). -/
def plainEvent (kind : BitVec 2) (ts : TS) : Event TS :=
  { kind := kind, ts := ts, mosiValid := false, mosi := 0, misoValid := false, miso := 0 }

/-- A RESULT event (30_encoding.md R71). -/
def resultEvent (ts : TS) (mosi miso : Option Byte) : Event TS :=
  { kind := 1, ts := ts, mosiValid := mosi.isSome, mosi := mosi.getD 0,
    misoValid := miso.isSome, miso := miso.getD 0 }

/-- A write frame as its four bytes (30_encoding.md R72, R85). -/
def writeCode (addr : Addr) (data : Half) (cmd crc : BitVec 4) : Code TS :=
  .frame (bytesOfFrame (mosiFrameOf false addr data cmd crc))

/-- A read frame as its four bytes (30_encoding.md R72, R85). -/
def readCode (addr : Addr) (data : Half) (cmd crc : BitVec 4) : Code TS :=
  .frame (bytesOfFrame (mosiFrameOf true addr data cmd crc))

/-- The word of an instruction. What the row does not use is 0 (the bytes of an event other than RESULT) or
`filler` (the timestamp of an ignored event). -/
def encode (filler : TS) : Instr TS → Code TS
  | .enable ts => .event .waitEnable (plainEvent 0 ts)
  | .enableRestart ts => .event .accumulating (plainEvent 0 ts)
  | .resultIgnored => .event .waitEnable (plainEvent 1 filler)
  | .result ts mosi miso => .event .accumulating (resultEvent ts mosi miso)
  | .disableIgnored => .event .waitEnable (plainEvent 2 filler)
  | .disable ts => .event .accumulating (plainEvent 2 ts)
  | .reservedKind3 => .event .waitEnable (plainEvent 3 filler)
  | .wrDeviceConfig d c k => writeCode 0x00 d c k
  | .wrSensorConfig d c k => writeCode 0x01 d c k
  | .wrSystemConfig d c k => writeCode 0x02 d c k
  | .wrAlertConfig d c k => writeCode 0x03 d c k
  | .wrXThrxConfig d c k => writeCode 0x04 d c k
  | .wrYThrxConfig d c k => writeCode 0x05 d c k
  | .wrZThrxConfig d c k => writeCode 0x06 d c k
  | .wrTThrxConfig d c k => writeCode 0x07 d c k
  | .wrConvStatus d c k => writeCode 0x08 d c k
  | .wrXChResult d c k => writeCode 0x09 d c k
  | .wrYChResult d c k => writeCode 0x0A d c k
  | .wrZChResult d c k => writeCode 0x0B d c k
  | .wrTempResult d c k => writeCode 0x0C d c k
  | .wrAfeStatus d c k => writeCode 0x0D d c k
  | .wrSysStatus d c k => writeCode 0x0E d c k
  | .wrTestConfig d c k => writeCode 0x0F d c k
  | .wrOscMonitor d c k => writeCode 0x10 d c k
  | .wrMagGainConfig d c k => writeCode 0x11 d c k
  | .wrMagOffsetConfig d c k => writeCode 0x12 d c k
  | .wrAngleResult d c k => writeCode 0x13 d c k
  | .wrMagnitudeResult d c k => writeCode 0x14 d c k
  | .wrUnknown15 d c k => writeCode 0x15 d c k
  | .wrUnknown16 a d c k => writeCode a d c k
  | .wrUnknown18 a d c k => writeCode a d c k
  | .wrUnknown20 a d c k => writeCode a d c k
  | .wrUnknown40 a d c k => writeCode a d c k
  | .rdDeviceConfig d c k => readCode 0x00 d c k
  | .rdSensorConfig d c k => readCode 0x01 d c k
  | .rdSystemConfig d c k => readCode 0x02 d c k
  | .rdAlertConfig d c k => readCode 0x03 d c k
  | .rdXThrxConfig d c k => readCode 0x04 d c k
  | .rdYThrxConfig d c k => readCode 0x05 d c k
  | .rdZThrxConfig d c k => readCode 0x06 d c k
  | .rdTThrxConfig d c k => readCode 0x07 d c k
  | .rdConvStatus d c k => readCode 0x08 d c k
  | .rdXChResult d c k => readCode 0x09 d c k
  | .rdYChResult d c k => readCode 0x0A d c k
  | .rdZChResult d c k => readCode 0x0B d c k
  | .rdTempResult d c k => readCode 0x0C d c k
  | .rdAfeStatus d c k => readCode 0x0D d c k
  | .rdSysStatus d c k => readCode 0x0E d c k
  | .rdTestConfig d c k => readCode 0x0F d c k
  | .rdOscMonitor d c k => readCode 0x10 d c k
  | .rdMagGainConfig d c k => readCode 0x11 d c k
  | .rdMagOffsetConfig d c k => readCode 0x12 d c k
  | .rdAngleResult d c k => readCode 0x13 d c k
  | .rdMagnitudeResult d c k => readCode 0x14 d c k
  | .rdUnknown15 d c k => readCode 0x15 d c k
  | .rdUnknown16 a d c k => readCode a d c k
  | .rdUnknown18 a d c k => readCode a d c k
  | .rdUnknown20 a d c k => readCode a d c k
  | .rdUnknown40 a d c k => readCode a d c k
  | .misoDefault => .dataType 0
  | .misoXy => .dataType 1
  | .misoXz => .dataType 2
  | .misoZy => .dataType 3
  | .misoXt => .dataType 4
  | .misoYt => .dataType 5
  | .misoZt => .dataType 6
  | .misoAm => .dataType 7

/-! ## The host's words -/

/-- The three formats of spec/opcode_table.json, as its numbers are read (entry 9). -/
inductive TableWord where
  | event (kind : BitVec 2)
  | dataType (code : BitVec 3)
  | frame (m : Frame)
deriving DecidableEq, Repr

/-- Which format a number of the table belongs to. The EVENT rows (2 bits) and the DATA_TYPE rows (3
bits) overlap: 0 to 3 are event kinds and data types at once. DESIGN CHOICE (entry 9): a one-byte number
with bit 2 set is a data type, any other one-byte number an event; longer numbers are MOSI frames. -/
def tableWord (nbits w : Nat) : TableWord :=
  if 8 < nbits then .frame (BitVec.ofNat 32 w)
  else if w.testBit 2 then .dataType (BitVec.ofNat 3 w)
  else .event (BitVec.ofNat 2 w)

/-- The word of a table number. An event arrives in the state of the machine after reset, so that a kind
with two rows gives the row of WAIT_ENABLE (entry 9). -/
def tableCode (filler : TS) (nbits w : Nat) : Code TS :=
  match tableWord nbits w with
  | .frame m => .frame (bytesOfFrame m)
  | .dataType c => .dataType c
  | .event k => .event .waitEnable (plainEvent k filler)

/-- The instruction the decoder reads from a number of the opcode table. -/
def decodeTableWord (nbits w : Nat) : Option Instr :=
  match decode (tableCode Stamp.unset nbits w) with
  | .ok i => some i
  | .error _ => none

end Sys2Proof
end

