-- ==== Sys2Proof/Machine/BitUtils.lean ====
section
/-! DEFINITION. BitUtils.lean: the bit and byte utilities of spec/40_bit_utilities.md. -/

namespace Sys2Proof.Machine

/-- `masked_value` (40_bit_utilities.md R100): the mask is applied after the shift. -/
def maskedValue (value position mask : Nat) : Nat := (value >>> position) &&& mask

/-- `get_bit` (R101). -/
def getBit (value i : Nat) : Nat := (value >>> i) &&& 1

/-- `set_bit` (R102): `bit` at index `position`, 0 elsewhere. -/
def setBit (bit position : Nat) : Nat := bit <<< position

/-- `sign_extend` (R103). Out of contract there is no value (60_exceptions.md R244). Bits of `value`
above the field are ignored (D26). -/
def signExtend (value : Nat) (widthBits outBits : Int) : Option Int :=
  if widthBits ≤ 0 ∨ outBits ≤ 0 ∨ outBits < widthBits then none
  else
    let f := value % 2 ^ widthBits.toNat
    if getBit f (widthBits.toNat - 1) = 0 then some f else some (f - 2 ^ widthBits.toNat)

/-- The contract of R103: positive widths, the result at least as wide as the field. -/
theorem signExtend_isSome (value : Nat) (w n : Int) (h : 0 < w ∧ w ≤ n) :
    (signExtend value w n).isSome := by
  unfold signExtend
  rw [if_neg (by omega)]
  dsimp only
  split <;> rfl

/-- `bytes_to_u32_be` (R104): a value only for exactly four bytes, the first the most significant. -/
def bytesToU32be (b : List Byte) (len : Nat) : Option Frame :=
  if len = 4 then
    match b with
    | [b0, b1, b2, b3] => some (frameOfBytes b0 b1 b2 b3)
    | _ => none
  else none

/-- `field` (R105): the slice `v[lsb+w-1 : lsb]`, sign-extended when signed. The bounds make the contract
of `signExtend` hold. -/
def field (v : Half) (lsb w : Nat) (signed : Bool) (h : 1 ≤ w ∧ lsb + w ≤ 16) : Int :=
  let raw := maskedValue v.toNat lsb (2 ^ w - 1)
  if signed then (signExtend raw w 16).get (signExtend_isSome raw w 16 (by omega)) else raw

end Sys2Proof.Machine
end

