-- ==== Sys2Proof/Machine/RegMap.lean ====
section
/-! DEFINITION. RegMap.lean: the register table, its lookup and the bitfield unpacker
(spec/42_register_map.md). The layouts are the spec's default value of the parameter REGMAP (D22), which
the spec itself marks as general knowledge (93_implementation_defined.md G1, G2). -/

namespace Sys2Proof.Machine

/-- An unsigned field at bits `lsb + width - 1 .. lsb` (42_register_map.md R120). -/
def uField (n : FieldName) (lsb width : Nat) (h : 1 ≤ width ∧ lsb + width ≤ 16 := by decide) : FieldDesc :=
  { fname := n, lsb := lsb, width := width, signed := false, reserved := false, bounds := h }

/-- A signed field (42_register_map.md R123). -/
def sField (n : FieldName) (lsb width : Nat) (h : 1 ≤ width ∧ lsb + width ≤ 16 := by decide) : FieldDesc :=
  { fname := n, lsb := lsb, width := width, signed := true, reserved := false, bounds := h }

/-- A reserved field: unpacked like any other unsigned field (42_register_map.md R147). -/
def rField (n : FieldName) (lsb width : Nat) (h : 1 ≤ width ∧ lsb + width ≤ 16 := by decide) : FieldDesc :=
  { fname := n, lsb := lsb, width := width, signed := false, reserved := true, bounds := h }

/-- R125: `DEVICE_CONFIG`. -/
def descDeviceConfig : RegDesc :=
  { addr := 0x00, name := .DEVICE_CONFIG, fields := [
    rField .RSVD_15 15 1, uField .CONV_AVG 12 3, rField .RSVD_11_10 10 2, uField .MAG_TEMPCO 8 2,
    rField .RSVD_7 7 1, uField .OPERATING_MODE 4 3, uField .T_CH_EN 3 1, uField .T_RATE 2 1,
    uField .T_HLT_EN 1 1, rField .RSVD_0 0 1] }

/-- R126: `SENSOR_CONFIG`. -/
def descSensorConfig : RegDesc :=
  { addr := 0x01, name := .SENSOR_CONFIG, fields := [
    uField .ANGLE_EN 14 2, uField .SLEEPTIME 10 4, uField .MAG_CH_EN 6 4, uField .Z_RANGE 4 2,
    uField .Y_RANGE 2 2, uField .X_RANGE 0 2] }

/-- R127: `SYSTEM_CONFIG`. -/
def descSystemConfig : RegDesc :=
  { addr := 0x02, name := .SYSTEM_CONFIG, fields := [
    rField .RSVD_15_14 14 2, uField .DIAG_SEL 12 2, rField .RSVD_11 11 1, uField .TRIGGER_MODE 9 2,
    uField .DATA_TYPE 6 3, uField .DIAG_EN 5 1, rField .RSVD_4_3 3 2, uField .Z_HLT_EN 2 1,
    uField .Y_HLT_EN 1 1, uField .X_HLT_EN 0 1] }

/-- R128: `ALERT_CONFIG`. -/
def descAlertConfig : RegDesc :=
  { addr := 0x03, name := .ALERT_CONFIG, fields := [
    rField .RSVD_15_14 14 2, uField .ALERT_LATCH 13 1, uField .ALERT_MODE 12 1,
    uField .STATUS_ALRT 11 1, rField .RSVD_10_9 9 2, uField .RSLT_ALRT 8 1, rField .RSVD_7_6 6 2,
    uField .THRX_COUNT 4 2, uField .T_THRX_ALRT 3 1, uField .Z_THRX_ALRT 2 1, uField .Y_THRX_ALRT 1 1,
    uField .X_THRX_ALRT 0 1] }

/-- R129: `X_THRX_CONFIG`. -/
def descXThrxConfig : RegDesc :=
  { addr := 0x04, name := .X_THRX_CONFIG, fields := [
    sField .X_HI_THRESHOLD 8 8, sField .X_LO_THRESHOLD 0 8] }

/-- R130: `Y_THRX_CONFIG`. -/
def descYThrxConfig : RegDesc :=
  { addr := 0x05, name := .Y_THRX_CONFIG, fields := [
    sField .Y_HI_THRESHOLD 8 8, sField .Y_LO_THRESHOLD 0 8] }

/-- R131: `Z_THRX_CONFIG`. -/
def descZThrxConfig : RegDesc :=
  { addr := 0x06, name := .Z_THRX_CONFIG, fields := [
    sField .Z_HI_THRESHOLD 8 8, sField .Z_LO_THRESHOLD 0 8] }

/-- R132: `T_THRX_CONFIG`. -/
def descTThrxConfig : RegDesc :=
  { addr := 0x07, name := .T_THRX_CONFIG, fields := [
    uField .T_HI_THRESHOLD 8 8, uField .T_LO_THRESHOLD 0 8] }

/-- R133: `CONV_STATUS`. -/
def descConvStatus : RegDesc :=
  { addr := 0x08, name := .CONV_STATUS, fields := [
    rField .RSVD_15_14 14 2, uField .RDY 13 1, uField .A 12 1, uField .T 11 1, uField .Z 10 1,
    uField .Y 9 1, uField .X 8 1, rField .RSVD_7 7 1, uField .SET_COUNT 4 3, rField .RSVD_3_2 2 2,
    uField .ALRT_STATUS 0 2] }

/-- R134: `X_CH_RESULT`. -/
def descXChResult : RegDesc :=
  { addr := 0x09, name := .X_CH_RESULT, fields := [
    sField .X_CH_RESULT 0 16] }

/-- R135: `Y_CH_RESULT`. -/
def descYChResult : RegDesc :=
  { addr := 0x0A, name := .Y_CH_RESULT, fields := [
    sField .Y_CH_RESULT 0 16] }

/-- R136: `Z_CH_RESULT`. -/
def descZChResult : RegDesc :=
  { addr := 0x0B, name := .Z_CH_RESULT, fields := [
    sField .Z_CH_RESULT 0 16] }

/-- R137: `TEMP_RESULT`. -/
def descTempResult : RegDesc :=
  { addr := 0x0C, name := .TEMP_RESULT, fields := [
    uField .TEMP_RESULT 0 16] }

/-- R138: `AFE_STATUS`. -/
def descAfeStatus : RegDesc :=
  { addr := 0x0D, name := .AFE_STATUS, fields := [
    uField .CFG_RESET 15 1, rField .RSVD_14_13 13 2, uField .SENS_STAT 12 1, uField .TEMP_STAT 11 1,
    uField .ZHS_STAT 10 1, uField .YHS_STAT 9 1, uField .XHS_STAT 8 1, rField .RSVD_7_2 2 6,
    uField .TRIM_STAT 1 1, uField .LDO_STAT 0 1] }

/-- R139: `SYS_STATUS`. -/
def descSysStatus : RegDesc :=
  { addr := 0x0E, name := .SYS_STATUS, fields := [
    uField .ALRT_LVL 15 1, uField .ALRT_DRV 14 1, uField .SDO_DRV 13 1, uField .CRC_STAT 12 1,
    uField .FRAME_STAT 11 1, uField .OPERATING_STAT 8 3, rField .RSVD_7_6 6 2, uField .VCC_OV 5 1,
    uField .VCC_UV 4 1, uField .TEMP_THX 3 1, uField .ZCH_THX 2 1, uField .YCH_THX 1 1,
    uField .XCH_THX 0 1] }

/-- R140: `TEST_CONFIG`. -/
def descTestConfig : RegDesc :=
  { addr := 0x0F, name := .TEST_CONFIG, fields := [
    rField .RSVD_15_6 6 10, uField .VER 4 2, rField .RSVD_3 3 1, uField .CRC_DIS 2 1,
    uField .OSC_CNT_CTL 0 2] }

/-- R141: `OSC_MONITOR`. -/
def descOscMonitor : RegDesc :=
  { addr := 0x10, name := .OSC_MONITOR, fields := [
    uField .OSC_COUNT 0 16] }

/-- R142: `MAG_GAIN_CONFIG`. -/
def descMagGainConfig : RegDesc :=
  { addr := 0x11, name := .MAG_GAIN_CONFIG, fields := [
    uField .GAIN_SELECTION 14 2, rField .RSVD_13_11 11 3, uField .GAIN_VALUE 0 11] }

/-- R143: `MAG_OFFSET_CONFIG`. -/
def descMagOffsetConfig : RegDesc :=
  { addr := 0x12, name := .MAG_OFFSET_CONFIG, fields := [
    uField .OFFSET_SELECTION 14 2, sField .OFFSET_VALUE1 7 7, sField .OFFSET_VALUE2 0 7] }

/-- R144: `ANGLE_RESULT`. -/
def descAngleResult : RegDesc :=
  { addr := 0x13, name := .ANGLE_RESULT, fields := [
    rField .RSVD_15_13 13 3, uField .ANGLE_RESULT 0 13] }

/-- R145: `MAGNITUDE_RESULT`. -/
def descMagnitudeResult : RegDesc :=
  { addr := 0x14, name := .MAGNITUDE_RESULT, fields := [
    rField .RSVD_15_13 13 3, uField .MAGNITUDE_RESULT 0 13] }

/-- The default REGMAP (42_register_map.md R124, D22). -/
def defaultRegmap : RegMap :=
  #v[descDeviceConfig, descSensorConfig, descSystemConfig, descAlertConfig, descXThrxConfig,
    descYThrxConfig, descZThrxConfig, descTThrxConfig, descConvStatus, descXChResult,
    descYChResult, descZChResult, descTempResult, descAfeStatus, descSysStatus, descTestConfig,
    descOscMonitor, descMagGainConfig, descMagOffsetConfig, descAngleResult, descMagnitudeResult]

/-- `lookup` (42_register_map.md R121): an address above `0x14` gives the unknown-register result. -/
def lookup (m : RegMap) (a : Addr) : Option RegDesc :=
  if h : a.toNat ≤ 0x14 then some (m[a.toNat]'(by omega)) else none

/-- `unpack` (42_register_map.md R122): one entry per field of the descriptor, in order. -/
def unpack (d : RegDesc) (v : Half) : List (FieldName × Int) :=
  d.fields.map fun f => (f.fname, field v f.lsb f.width f.signed f.bounds)

/-- The value of the first field of that name, if there is one (entry 13). -/
def fieldNamed (fields : List (FieldName × Int)) (n : FieldName) : Option Int :=
  (fields.find? fun p => p.1 == n).map Prod.snd

end Sys2Proof.Machine
end

