-- ==== Sys2Proof/Machine/State.lean ====
section
/-! DEFINITION. State.lean: the state of the block (spec/10_state.md), its output record (30_encoding.md
R78), its inputs, and the reset state (R41, R271). -/

namespace Sys2Proof.Machine

variable {TS : Type}

/-- The faults of a step: NONE. "a step of this block always returns the next state; it never faults"
(60_exceptions.md R249). -/
inductive Fault where
deriving DecidableEq, Repr

/-- The refusals of a step. -/
inductive Refusal where
  /-- Raised by an arm of `exec` whose instruction has no meaning yet; safe. No arm uses it. -/
  | notModelled (mnemonic : String)
deriving DecidableEq, Repr

/-- The status of a CRC check (41_crc4.md R112): encoded 0 = OK, 1 = ERROR (D23). -/
inductive CrcStatus where
  | ok | error
deriving DecidableEq, Repr

/-- `CrcResult` (41_crc4.md R112). -/
structure CrcResult where
  status : CrcStatus
  calculated : BitVec 4
  fromBus : BitVec 4
deriving DecidableEq, Repr

/-- The direction of a transaction (43_frame_assembler.md R173): `M[31]`, 1 = read, 0 = write. -/
inductive Dir where
  | write | read
deriving DecidableEq, Repr

/-- The output record `rec` (30_encoding.md R78), one field per field of its table; `none` is the
spec's `none` (00_scope.md R9). -/
structure Record (TS : Type := Stamp) where
  tStart : TS
  tEnd : TS
  lenErrMosi : Bool
  lenErrMiso : Bool
  mosiFrame : Option Frame
  misoFrame : Option Frame
  mosiCrc : Option CrcResult
  misoCrc : Option CrcResult
  dir : Option Dir
  addr : Option Addr
  regKnown : Option Bool
  mosiData : Option Half
  misoData : Option Half
  regValue : Option Half
  fields : Option (List (FieldName × Int))
  ch1Raw : Option (BitVec 12)
  ch2Raw : Option (BitVec 12)
  ch1Val : Option Int
  ch2Val : Option Int
  cmd : Option (BitVec 4)
  stat : Option (BitVec 3)
  errBit : Option Bool
  stat8 : Option Byte
  err : BitVec 5
  regUnit : Option Q
  thrHiUnit : Option Q
  thrLoUnit : Option Q
  ch1Unit : Option Q
  ch2Unit : Option Q
deriving DecidableEq, Repr

/-- A buffer space (20_memory.md R50): cells at indices 0 to 3. An index that is not listed holds no
value (10_state.md R22, 70_reset_and_hazards.md R271; entry 5). -/
abbrev Memory := List Host.Cell

/-- The canonical form: indices strictly rising from `lo`, all below 4. -/
def Memory.wfFrom : Nat → Memory → Bool
  | _, [] => true
  | lo, (a, _) :: m => decide (lo ≤ a) && decide (a < 4) && Memory.wfFrom (a + 1) m

/-- The canonical form of a buffer. No entry can equal what an unlisted index holds, which is no value. -/
def Memory.wf (m : Memory) : Bool := Memory.wfFrom 0 m

/-- What the environment can do to the block: deliver an event (30_encoding.md R71), or construct it anew,
that is reset it and supply a configuration (70_reset_and_hazards.md R270, R275; entry 12). -/
inductive Input (TS : Type := Stamp) where
  | event (ev : Event TS)
  | construct (cfg : DecoderConfig)
deriving DecidableEq, Repr

/-- The state: the storage elements of 10_state.md R20, the configuration and parameters of the run
(R26, 00_scope.md R6), the output port and the inputs not yet taken. `TS`, the type of timestamps, is a
parameter (00_scope.md R6, D4). -/
structure State (TS : Type := Stamp) where
  /-- `fsm` (10_state.md R21). -/
  fsm : Fsm
  /-- `buf.mosi` (R22). -/
  bufMosi : Memory
  /-- `cnt.mosi` (R24). -/
  cntMosi : BitVec 3
  /-- `buf.miso` (R23). -/
  bufMiso : Memory
  /-- `cnt.miso` (R24). -/
  cntMiso : BitVec 3
  /-- `t_start` (R25). -/
  tStart : TS
  /-- `cfg` (R30): a constant of the run (70_reset_and_hazards.md R277). -/
  cfg : DecoderConfig
  /-- The parameters of 00_scope.md R6, REGMAP among them: constants. -/
  params : Params
  /-- `out` (00_scope.md R12): the record that the step just taken produced, if it produced one; during
  a finalize, the record being assembled (entry 7). -/
  out : Option (Record TS)
  /-- The inputs not yet taken, in order of arrival (20_memory.md R63; entry 6). -/
  inbox : List (Input TS)
deriving DecidableEq, Repr

/-- The configuration at reset. The spec gives none (10_state.md R39): DESIGN CHOICE (entry 1), every
field 0. -/
def resetConfig : DecoderConfig :=
  { dataType := .default, brX := .notSelected, brY := .notSelected, brZ := .notSelected, convEn := false,
    crcCheckEn := false, statNibbleEn := false, stat8En := false, earlyFinalize := false }

/-- The default parameters (92_eei_decisions.md section 1; entry 2). -/
def defaultParams : Params :=
  { regmap := defaultRegmap, errorBitSource := .mosi, emptyFinalizeEmits := true,
    threshRangeSharedX := false }

/-- The state right after reset with a configuration and parameters (10_state.md R41,
70_reset_and_hazards.md R271). `tStart` is unspecified there, "any value" (93_implementation_defined.md U11),
so it is an argument. -/
def resetAt (t0 : TS) (cfg : DecoderConfig) (params : Params) : State TS :=
  { fsm := .waitEnable, bufMosi := [], cntMosi := 0, bufMiso := [], cntMiso := 0, tStart := t0,
    cfg := cfg, params := params, out := none, inbox := [] }

/-- The state right after reset. DESIGN CHOICE for `tStart`: `Stamp.unset` (entry 4). -/
def State.reset : State := resetAt Stamp.unset resetConfig defaultParams

/-- What a meaning answers. -/
abbrev Result (TS : Type := Stamp) := Host.Outcome (State TS) Fault Refusal

end Sys2Proof.Machine
end

