-- ==== Sys2Proof/Machine/Crc.lean ====
section
/-! DEFINITION. Crc.lean: the CRC-4 engine (spec/41_crc4.md). -/

namespace Sys2Proof.Machine

/-- The payload: the frame with its low four bits zeroed (41_crc4.md R110). -/
def crcPayload (f : Frame) : Frame := f &&& 0xFFFFFFF0#32

/-- One iteration of the recurrence (41_crc4.md R111). All four right-hand sides read the register from
before the iteration. -/
def crcStep (bit : Bool) (r : BitVec 4) : BitVec 4 :=
  let inv := bit ^^ r.getLsbD 3
  BitVec.ofBool (r.getLsbD 2) ++ BitVec.ofBool (r.getLsbD 1) ++
    BitVec.ofBool (r.getLsbD 0 ^^ inv) ++ BitVec.ofBool inv

/-- The iterations for bits `n - 1` down to 0 of the payload. -/
def crcBits (p : Frame) : Nat → BitVec 4 → BitVec 4
  | 0, r => r
  | n + 1, r => crcBits p n (crcStep (p.getLsbD n) r)

/-- `crc4_calc` (41_crc4.md R111): 32 iterations from the register value `0xF`. -/
def crc4Calc (f : Frame) : BitVec 4 := crcBits (crcPayload f) 32 0xF

/-- `crc_check` (41_crc4.md R112). -/
def crcCheck (f : Frame) : CrcResult :=
  let calculated := crc4Calc f
  let fromBus := f.extractLsb' 0 4
  { status := if calculated = fromBus then .ok else .error, calculated := calculated, fromBus := fromBus }

/-- `mkframe` (30_encoding.md R85): the frame of a 28-bit payload with a correct CRC. -/
def mkFrame (p : BitVec 28) : Frame := p ++ crc4Calc (p ++ 0#4)

end Sys2Proof.Machine
end

