-- ==== Sys2Proof/Machine/Units.lean ====
section
/-! DEFINITION. Units.lean: the physical-unit converters (spec/45_unit_conversion.md), into the exact
rationals. Where the governing setting is unset there is no value (R220). -/

namespace Sys2Proof.Machine

/-- The full-scale range configured for one axis (10_state.md R32). -/
def axisRange (c : DecoderConfig) : Axis → BrRange
  | .x => c.brX
  | .y => c.brY
  | .z => c.brZ

/-- `temp16` (45_unit_conversion.md R221). -/
def temp16 (c : DecoderConfig) (raw : Half) : Option Q :=
  if c.convEn then some (25 + ((raw.toNat : Q) - 17522) / 60) else none

/-- `temp12` (R222): the inner quotient of the formula is exact (D28). -/
def temp12 (c : DecoderConfig) (raw : BitVec 12) : Option Q :=
  if c.convEn then some (25 + (16 * (raw.toNat : Q) - 17522) / 60) else none

/-- `temp_thr` (R223), with its reference pair. -/
def tempThr (c : DecoderConfig) (code refCode refTemp : Int) : Option Q :=
  if c.convEn then some (((code : Q) - refCode) * (4267 / 1000) + refTemp) else none

/-- `br_mT` (R224): the full-scale range in millitesla. -/
def brMT : BrRange → Option Q
  | .notSelected => none
  | .mT25 => some 25
  | .mT50 => some 50
  | .mT100 => some 100
  | .mT75 => some 75
  | .mT150 => some 150
  | .mT300 => some 300

/-- `mag16` (R225). -/
def mag16 (raw : Int) (range : BrRange) : Option Q :=
  (brMT range).map fun br => (raw : Q) * 2 * br / 65536

/-- `mag12` (R226). -/
def mag12 (val : Int) (range : BrRange) : Option Q :=
  (brMT range).map fun br => (val : Q) * 2 * br / 4096

/-- `mag_thr` (R227). -/
def magThr (code : Int) (range : BrRange) : Option Q :=
  (brMT range).map fun br => (code : Q) * br / 128

/-- Which range a magnetic threshold register uses (R227, `THRESH_RANGE_SHARED_X`). -/
def threshRange (c : DecoderConfig) (p : Params) (a : Axis) : BrRange :=
  if p.threshRangeSharedX then c.brX else axisRange c a

/-- `angle16` (R228): of the whole payload; bits 15:13 have no influence. -/
def angle16 (c : DecoderConfig) (raw : Half) : Option Q :=
  if c.convEn then
    some ((maskedValue raw.toNat 4 0x1FF : Q) + (maskedValue raw.toNat 0 0xF : Q) / 16)
  else none

/-- `angle12` (R229). -/
def angle12 (c : DecoderConfig) (raw : BitVec 12) : Option Q :=
  if c.convEn then
    some ((maskedValue raw.toNat 3 0x1FF : Q) + (maskedValue raw.toNat 0 0x7 : Q) / 8)
  else none

/-- The register annotations of a record (R230). -/
structure RegUnits where
  reg : Option Q
  thrHi : Option Q
  thrLo : Option Q
deriving DecidableEq, Repr

/-- No register annotation. -/
def noUnits : RegUnits := { reg := none, thrHi := none, thrLo := none }

/-- The annotation of a magnetic result register (R225, R230). -/
def magResultUnits (c : DecoderConfig) (fields : List (FieldName × Int)) (n : FieldName) (a : Axis) :
    RegUnits :=
  { noUnits with reg := (fieldNamed fields n).bind fun raw => mag16 raw (axisRange c a) }

/-- The annotations of a magnetic threshold register (R227, R230). -/
def magThreshUnits (c : DecoderConfig) (p : Params) (fields : List (FieldName × Int)) (hi lo : FieldName)
    (a : Axis) : RegUnits :=
  { reg := none
    thrHi := (fieldNamed fields hi).bind fun code => magThr code (threshRange c p a)
    thrLo := (fieldNamed fields lo).bind fun code => magThr code (threshRange c p a) }

/-- The annotations of the temperature threshold register (R223, R230). -/
def tempThreshUnits (c : DecoderConfig) (fields : List (FieldName × Int)) : RegUnits :=
  { reg := none
    thrHi := (fieldNamed fields .T_HI_THRESHOLD).bind fun code => tempThr c code 103 172
    thrLo := (fieldNamed fields .T_LO_THRESHOLD).bind fun code => tempThr c code 50 (-53) }

/-- The register annotations by address, where `fields` is present (R230). -/
def regUnits (c : DecoderConfig) (p : Params) (addr : Addr) (value : Half)
    (fields : List (FieldName × Int)) : RegUnits :=
  match addr.toNat with
  | 0x04 => magThreshUnits c p fields .X_HI_THRESHOLD .X_LO_THRESHOLD .x
  | 0x05 => magThreshUnits c p fields .Y_HI_THRESHOLD .Y_LO_THRESHOLD .y
  | 0x06 => magThreshUnits c p fields .Z_HI_THRESHOLD .Z_LO_THRESHOLD .z
  | 0x07 => tempThreshUnits c fields
  | 0x09 => magResultUnits c fields .X_CH_RESULT .x
  | 0x0A => magResultUnits c fields .Y_CH_RESULT .y
  | 0x0B => magResultUnits c fields .Z_CH_RESULT .z
  | 0x0C => { noUnits with reg := temp16 c value }
  | 0x13 => { noUnits with reg := angle16 c value }
  | _ => noUnits

end Sys2Proof.Machine
end

