-- ==== Sys2Proof/Machine/Operands.lean ====
section
/-! DEFINITION. Operands.lean: the slices of the MISO frame, the payload selection and the channel lanes
(30_encoding.md sections 3 and 6, 44_mode_decoders.md section 2). The slices of the MOSI frame stand in
Decode.lean. -/

namespace Sys2Proof.Machine

/-! ## MISO frame, both formats (30_encoding.md R73, R74) -/

/-- `S[23:8]`: the register value of a read in the regular format (R73, R75). -/
def misoDataOf (f : Frame) : Half := f.extractLsb' 8 16

/-- `S[31:24]`: the status byte of the regular format (R73). -/
def misoStat8Of (f : Frame) : Byte := f.extractLsb' 24 8

/-- `S[6:4]`: the 3-bit status (R73, R74). -/
def misoStatOf (f : Frame) : BitVec 3 := f.extractLsb' 4 3

/-- Bit 7 of a frame: the error bit's place on either side (44_mode_decoders.md R201). -/
def bit7 (f : Frame) : Bool := f.getLsbD 7

/-! ## The authoritative payload (30_encoding.md R79, 43_frame_assembler.md R175) -/

/-- `reg_value` where the MOSI frame is present: MOSI for a write in every mode, MISO for a read in the
regular mode, else none (D24, D25). -/
def payload (dir : Dir) (mosiData : Half) (misoFrame : Option Frame) (dt : DataType) : Option Half :=
  match dir with
  | .write => some mosiData
  | .read => if dt = .default then misoFrame.map misoDataOf else none

/-! ## Channels (44_mode_decoders.md R199, R200) -/

/-- `chan1(S)` (R199): byte 23:16 above nibble 11:8. -/
def chan1 (f : Frame) : BitVec 12 := f.extractLsb' 16 8 ++ f.extractLsb' 8 4

/-- `chan2(S)` (R199): byte 31:24 above nibble 15:12. -/
def chan2 (f : Frame) : BitVec 12 := f.extractLsb' 24 8 ++ f.extractLsb' 12 4

/-- What a channel carries (R190's table). -/
inductive Quantity where
  | magnetic (a : Axis) | temperature | angle | magnitude
deriving DecidableEq, Repr

/-- Magnetic channels are signed, all others unsigned (R190's table). -/
def Quantity.signed : Quantity → Bool
  | .magnetic _ => true
  | .temperature => false
  | .angle => false
  | .magnitude => false

/-- `ext12` (R200): the sign-extended or zero-extended 12-bit lane. -/
def ext12 (c : BitVec 12) (signed : Bool) : Int :=
  if signed then (signExtend c.toNat 12 16).get (signExtend_isSome c.toNat 12 16 (by decide)) else c.toNat

/-- The annotation of a channel (45_unit_conversion.md R226, R222, R229, R230). -/
def channelUnit (c : DecoderConfig) (q : Quantity) (raw : BitVec 12) : Option Q :=
  match q with
  | .magnetic a => mag12 (ext12 raw true) (axisRange c a)
  | .temperature => temp12 c raw
  | .angle => angle12 c raw
  | .magnitude => none

end Sys2Proof.Machine
end

