-- ==== Sys2Proof/Machine/Flags.lean ====
section
/-! DEFINITION. Flags.lean: every status of the record: the CRC results, the status groups and the error
vector (44_mode_decoders.md section 3, 60_exceptions.md section 1). The block holds no flag between steps
(10_state.md R28). -/

namespace Sys2Proof.Machine

variable {TS : Type}

/-- The CRC result of a present frame as the record reports it (43_frame_assembler.md R177). -/
def crcReport (c : DecoderConfig) (f : Frame) : Option CrcResult :=
  if c.crcCheckEn then some (crcCheck f) else none

/-- `cmd` of a present MOSI frame (44_mode_decoders.md R201). -/
def cmdReport (c : DecoderConfig) (cmd : BitVec 4) : Option (BitVec 4) :=
  if c.statNibbleEn then some cmd else none

/-- `stat` of a present MISO frame (R201). -/
def statReport (c : DecoderConfig) (f : Frame) : Option (BitVec 3) :=
  if c.statNibbleEn then some (misoStatOf f) else none

/-- `err_bit` of the frame it is taken from (R201). -/
def errBitReport (c : DecoderConfig) (f : Frame) : Option Bool :=
  if c.statNibbleEn then some (bit7 f) else none

/-- `stat8` of a present MISO frame in the regular mode (R202). -/
def stat8Report (c : DecoderConfig) (f : Frame) : Option Byte :=
  if c.stat8En then some (misoStat8Of f) else none

/-- The eight named flags of the 8-bit status group (R202, D19). -/
structure Stat8Flags where
  previousCrc : Bool
  configReset : Bool
  alertHigh : Bool
  alertLow : Bool
  readyX : Bool
  readyY : Bool
  readyZ : Bool
  readyT : Bool
deriving DecidableEq, Repr

/-- The assignment of the flags to the bits, most significant first in the listing order (R202, D19). -/
def stat8Flags (b : Byte) : Stat8Flags :=
  { previousCrc := b.getLsbD 7, configReset := b.getLsbD 6, alertHigh := b.getLsbD 5,
    alertLow := b.getLsbD 4, readyX := b.getLsbD 3, readyY := b.getLsbD 2, readyZ := b.getLsbD 1,
    readyT := b.getLsbD 0 }

/-- A reported CRC error (60_exceptions.md R241): a result that is present and has status ERROR. -/
def crcFailed (r : Option CrcResult) : Bool :=
  match r with
  | some x => x.status == .error
  | none => false

/-- The error vector of a record (60_exceptions.md R245): bit 0 LEN_ERR_MOSI, 1 LEN_ERR_MISO, 2
CRC_ERR_MOSI, 3 CRC_ERR_MISO, 4 UNKNOWN_REG. -/
def errVector (r : Record TS) : BitVec 5 :=
  BitVec.ofBool (r.regKnown == some false) ++ BitVec.ofBool (crcFailed r.misoCrc) ++
    BitVec.ofBool (crcFailed r.mosiCrc) ++ BitVec.ofBool r.lenErrMiso ++ BitVec.ofBool r.lenErrMosi

end Sys2Proof.Machine
end

