-- ==== Sys2Proof/Machine/Ops.lean ====
section
/-! DEFINITION. Ops.lean: the named operations over the buffers, the counters and the output port. No
exception entry or return stands here: the block has none (60_exceptions.md R249, R250), and its error
kinds are fields of the record (Flags.lean). -/

namespace Sys2Proof.Machine

variable {TS : Type}

/-- Run `f` on the next state, if there is one. -/
def andThen (r : Result TS) (f : State TS → Result TS) : Result TS :=
  match r with
  | .next s => f s
  | .fault e => .fault e
  | .refused e => .refused e

/-! ## Buffers (20_memory.md R50, R51) -/

/-- The byte at an index, if the cell holds a value. -/
def Memory.read : Memory → Nat → Option Byte
  | [], _ => none
  | (a, b) :: m, i => if a = i then some b else Memory.read m i

/-- Store a byte at an index, keeping the canonical form. -/
def Memory.write : Memory → Nat → Byte → Memory
  | [], i, b => [(i, b)]
  | (a, x) :: m, i, b =>
    if i < a then (i, b) :: (a, x) :: m
    else if i = a then (i, b) :: m
    else (a, x) :: Memory.write m i b

/-- The buffer of a side (10_state.md R22, R23). -/
def State.buffer (s : State TS) : Side → Memory
  | .mosi => s.bufMosi
  | .miso => s.bufMiso

/-- The counter of a side (10_state.md R24). -/
def State.count (s : State TS) : Side → BitVec 3
  | .mosi => s.cntMosi
  | .miso => s.cntMiso

/-- Set the buffer of a side. -/
def State.withBuffer (s : State TS) (side : Side) (m : Memory) : State TS :=
  match side with
  | .mosi => { s with bufMosi := m }
  | .miso => { s with bufMiso := m }

/-- Set the counter of a side. -/
def State.withCount (s : State TS) (side : Side) (n : BitVec 3) : State TS :=
  match side with
  | .mosi => { s with cntMosi := n }
  | .miso => { s with cntMiso := n }

/-- `append(side, b)` (43_frame_assembler.md R164): the byte goes to the cell at the counter; the fifth
and later bytes are counted as "more than 4" and dropped. -/
def append (side : Side) (b : Byte) (s : State TS) : State TS :=
  if s.count side < 4 then
    (s.withBuffer side ((s.buffer side).write (s.count side).toNat b)).withCount side (s.count side + 1)
  else s.withCount side 5

/-- The append of a RESULT event's optional byte (R165). -/
def appendByte (side : Side) (b : Option Byte) (s : State TS) : State TS :=
  match b with
  | some b => append side b s
  | none => s

/-- `clear()` (43_frame_assembler.md R169). The cells above a counter hold no value (entry 5). -/
def clear (s : State TS) : State TS :=
  { s with bufMosi := [], cntMosi := 0, bufMiso := [], cntMiso := 0 }

/-- The byte of a cell. A cell that holds no value gives a free value; with the counter at 4 every cell
holds one (entry 5). -/
def cell (s : State TS) (side : Side) (i : Nat) : Byte :=
  ((s.buffer side).read i).getD (Config.unspecifiedCell side i)

/-- Frame assembly (43_frame_assembler.md R172): a frame exactly when the side's counter is 4. -/
def frameOf (side : Side) (s : State TS) : Option Frame :=
  bytesToU32be [cell s side 0, cell s side 1, cell s side 2, cell s side 3] (s.count side).toNat

/-! ## The output port (00_scope.md R12) -/

/-- Put a record, or none, on the output port. -/
def setOut (r : Option (Record TS)) (s : State TS) : State TS := { s with out := r }

/-- Change the record on the output port, if there is one. -/
def mapOut (f : Record TS → Record TS) (s : State TS) : State TS := { s with out := s.out.map f }

/-! ## Sequencing (10_state.md R21, R25) -/

/-- Open a transaction: cleared buffers, the start timestamp latched, ACCUMULATING (43_frame_assembler.md
R161, R165, R167). -/
def openAt (ts : TS) (s : State TS) : State TS := { clear s with tStart := ts, fsm := .accumulating }

/-- Close the transaction: cleared buffers, WAIT_ENABLE (R166). -/
def close (s : State TS) : State TS := { clear s with fsm := .waitEnable }

/-- Construction: reset with a configuration (70_reset_and_hazards.md R270, R271; entry 12). The parameters
are fixed before the first step (R276). What was accumulated is discarded without a record (R272). The latch
`tStart`, unspecified after reset, keeps what it held (entry 4). -/
def construct (cfg : DecoderConfig) (s : State TS) : State TS :=
  { resetAt s.tStart cfg s.params with inbox := s.inbox }

end Sys2Proof.Machine
end

