-- ==== Sys2Proof/Machine/Modes.lean ====
section
/-! DEFINITION. Modes.lean: the eight DATA_TYPE rows (44_mode_decoders.md R190 to R198): the part of the
MISO side of finalize that depends on the mode. Without a MISO frame there is nothing to interpret. -/

namespace Sys2Proof.Machine

variable {TS : Type}

/-- The regular format (44_mode_decoders.md R191, R202). -/
def decodeRegular (c : DecoderConfig) (r : Record TS) : Record TS :=
  match r.misoFrame with
  | none => r
  | some f =>
    { r with
      misoData := some (misoDataOf f)
      ch1Raw := none
      ch1Val := none
      ch2Raw := none
      ch2Val := none
      stat8 := stat8Report c f
      ch1Unit := none
      ch2Unit := none }

/-- The special format (R192 to R200): two 12-bit channels and what each carries. -/
def decodePair (c : DecoderConfig) (q1 q2 : Quantity) (r : Record TS) : Record TS :=
  match r.misoFrame with
  | none => r
  | some f =>
    { r with
      misoData := none
      ch1Raw := some (chan1 f)
      ch1Val := some (ext12 (chan1 f) q1.signed)
      ch2Raw := some (chan2 f)
      ch2Val := some (ext12 (chan2 f) q2.signed)
      stat8 := none
      ch1Unit := channelUnit c q1 (chan1 f)
      ch2Unit := channelUnit c q2 (chan2 f) }

/-- The operation of a channel-pair row, on the record being assembled (entry 11). -/
def pairOp (q1 q2 : Quantity) (s : State TS) : Result TS := .next (mapOut (decodePair s.cfg q1 q2) s)

/-- DEFAULT (R191). -/
def execMisoDefault (s : State TS) : Result TS := .next (mapOut (decodeRegular s.cfg) s)

/-- XY (R192). -/
def execMisoXy (s : State TS) : Result TS := pairOp (.magnetic .x) (.magnetic .y) s

/-- XZ (R193). -/
def execMisoXz (s : State TS) : Result TS := pairOp (.magnetic .x) (.magnetic .z) s

/-- ZY (R194). -/
def execMisoZy (s : State TS) : Result TS := pairOp (.magnetic .z) (.magnetic .y) s

/-- XT (R195). -/
def execMisoXt (s : State TS) : Result TS := pairOp (.magnetic .x) .temperature s

/-- YT (R196). -/
def execMisoYt (s : State TS) : Result TS := pairOp (.magnetic .y) .temperature s

/-- ZT (R197). -/
def execMisoZt (s : State TS) : Result TS := pairOp (.magnetic .z) .temperature s

/-- AM (R198). -/
def execMisoAm (s : State TS) : Result TS := pairOp .angle .magnitude s

end Sys2Proof.Machine
end

