-- ==== Sys2Proof/Machine/Frames.lean ====
section
/-! DEFINITION. Frames.lean: the one operation behind the 52 MOSI_FRAME rows: the MOSI side of finalize
(43_frame_assembler.md R173 to R177, 42_register_map.md R121, R122). -/

namespace Sys2Proof.Machine

variable {TS : Type}

/-- `fields` (43_frame_assembler.md R176): present when the payload is and the address is known. -/
def unpackedFields (m : RegMap) (addr : Addr) (value : Option Half) : Option (List (FieldName × Int)) :=
  match value, lookup m addr with
  | some v, some d => some (unpack d v)
  | _, _ => none

/-- The register annotations (45_unit_conversion.md R230): only where `fields` is present. -/
def unitsReport (c : DecoderConfig) (p : Params) (addr : Addr) (value : Option Half)
    (fields : Option (List (FieldName × Int))) : RegUnits :=
  match value, fields with
  | some v, some fs => regUnits c p addr v fs
  | _, _ => noUnits

/-- The MOSI side of the record: what finalize computes from a present MOSI frame. The payload of a read
is taken from the MISO frame of the same record (30_encoding.md R79). `err_bit` is this side's under
`ERROR_BIT_SOURCE = MOSI` (44_mode_decoders.md R201). -/
def decodeMosiSide (c : DecoderConfig) (p : Params) (dir : Dir) (addr : Addr) (data : Half)
    (cmd crc : BitVec 4) (r : Record TS) : Record TS :=
  let m := mosiFrameOf (dir == .read) addr data cmd crc
  let value := payload dir data r.misoFrame c.dataType
  let fields := unpackedFields p.regmap addr value
  let units := unitsReport c p addr value fields
  { r with
    mosiFrame := some m
    mosiCrc := crcReport c m
    dir := some dir
    addr := some addr
    regKnown := some (lookup p.regmap addr).isSome
    mosiData := some data
    regValue := value
    fields := fields
    cmd := cmdReport c cmd
    errBit := match p.errorBitSource with
      | .mosi => errBitReport c m
      | .miso => r.errBit
    regUnit := units.reg
    thrHiUnit := units.thrHi
    thrLoUnit := units.thrLo }

/-- The operation of a MOSI_FRAME row: the MOSI side of the record being assembled on the output port
(entry 11). -/
def frameOp (dir : Dir) (addr : Addr) (data : Half) (cmd crc : BitVec 4) (s : State TS) : Result TS :=
  .next (mapOut (decodeMosiSide s.cfg s.params dir addr data cmd crc) s)

end Sys2Proof.Machine
end

