-- ==== Sys2Proof/Machine/Reads.lean ====
section
/-! DEFINITION. Reads.lean: the RD rows of format MOSI_FRAME. Each is the MOSI side of finalize for its
address (42_register_map.md R125 to R145 for the registers, R121 and 60_exceptions.md R242 for the unknown
addresses); the field list is the register's entry in REGMAP. -/

namespace Sys2Proof.Machine

variable {TS : Type}

/-- RD DEVICE_CONFIG (R125). -/
def execRdDeviceConfig (data : Half) (cmd crc : BitVec 4) (s : State TS) : Result TS :=
  frameOp .read 0x00 data cmd crc s

/-- RD SENSOR_CONFIG (R126). -/
def execRdSensorConfig (data : Half) (cmd crc : BitVec 4) (s : State TS) : Result TS :=
  frameOp .read 0x01 data cmd crc s

/-- RD SYSTEM_CONFIG (R127). -/
def execRdSystemConfig (data : Half) (cmd crc : BitVec 4) (s : State TS) : Result TS :=
  frameOp .read 0x02 data cmd crc s

/-- RD ALERT_CONFIG (R128). -/
def execRdAlertConfig (data : Half) (cmd crc : BitVec 4) (s : State TS) : Result TS :=
  frameOp .read 0x03 data cmd crc s

/-- RD X_THRX_CONFIG (R129). -/
def execRdXThrxConfig (data : Half) (cmd crc : BitVec 4) (s : State TS) : Result TS :=
  frameOp .read 0x04 data cmd crc s

/-- RD Y_THRX_CONFIG (R130). -/
def execRdYThrxConfig (data : Half) (cmd crc : BitVec 4) (s : State TS) : Result TS :=
  frameOp .read 0x05 data cmd crc s

/-- RD Z_THRX_CONFIG (R131). -/
def execRdZThrxConfig (data : Half) (cmd crc : BitVec 4) (s : State TS) : Result TS :=
  frameOp .read 0x06 data cmd crc s

/-- RD T_THRX_CONFIG (R132). -/
def execRdTThrxConfig (data : Half) (cmd crc : BitVec 4) (s : State TS) : Result TS :=
  frameOp .read 0x07 data cmd crc s

/-- RD CONV_STATUS (R133). -/
def execRdConvStatus (data : Half) (cmd crc : BitVec 4) (s : State TS) : Result TS :=
  frameOp .read 0x08 data cmd crc s

/-- RD X_CH_RESULT (R134). -/
def execRdXChResult (data : Half) (cmd crc : BitVec 4) (s : State TS) : Result TS :=
  frameOp .read 0x09 data cmd crc s

/-- RD Y_CH_RESULT (R135). -/
def execRdYChResult (data : Half) (cmd crc : BitVec 4) (s : State TS) : Result TS :=
  frameOp .read 0x0A data cmd crc s

/-- RD Z_CH_RESULT (R136). -/
def execRdZChResult (data : Half) (cmd crc : BitVec 4) (s : State TS) : Result TS :=
  frameOp .read 0x0B data cmd crc s

/-- RD TEMP_RESULT (R137). -/
def execRdTempResult (data : Half) (cmd crc : BitVec 4) (s : State TS) : Result TS :=
  frameOp .read 0x0C data cmd crc s

/-- RD AFE_STATUS (R138). -/
def execRdAfeStatus (data : Half) (cmd crc : BitVec 4) (s : State TS) : Result TS :=
  frameOp .read 0x0D data cmd crc s

/-- RD SYS_STATUS (R139). -/
def execRdSysStatus (data : Half) (cmd crc : BitVec 4) (s : State TS) : Result TS :=
  frameOp .read 0x0E data cmd crc s

/-- RD TEST_CONFIG (R140). -/
def execRdTestConfig (data : Half) (cmd crc : BitVec 4) (s : State TS) : Result TS :=
  frameOp .read 0x0F data cmd crc s

/-- RD OSC_MONITOR (R141). -/
def execRdOscMonitor (data : Half) (cmd crc : BitVec 4) (s : State TS) : Result TS :=
  frameOp .read 0x10 data cmd crc s

/-- RD MAG_GAIN_CONFIG (R142). -/
def execRdMagGainConfig (data : Half) (cmd crc : BitVec 4) (s : State TS) : Result TS :=
  frameOp .read 0x11 data cmd crc s

/-- RD MAG_OFFSET_CONFIG (R143). -/
def execRdMagOffsetConfig (data : Half) (cmd crc : BitVec 4) (s : State TS) : Result TS :=
  frameOp .read 0x12 data cmd crc s

/-- RD ANGLE_RESULT (R144). -/
def execRdAngleResult (data : Half) (cmd crc : BitVec 4) (s : State TS) : Result TS :=
  frameOp .read 0x13 data cmd crc s

/-- RD MAGNITUDE_RESULT (R145). -/
def execRdMagnitudeResult (data : Half) (cmd crc : BitVec 4) (s : State TS) : Result TS :=
  frameOp .read 0x14 data cmd crc s

/-- RD UNKNOWN_0x15 (R121). -/
def execRdUnknown15 (data : Half) (cmd crc : BitVec 4) (s : State TS) : Result TS :=
  frameOp .read 0x15 data cmd crc s

/-- RD of an unknown address 0x16 to 0x17 (R121). -/
def execRdUnknown16 (addr : Addr) (data : Half) (cmd crc : BitVec 4) (s : State TS) : Result TS :=
  frameOp .read addr data cmd crc s

/-- RD of an unknown address 0x18 to 0x1F (R121). -/
def execRdUnknown18 (addr : Addr) (data : Half) (cmd crc : BitVec 4) (s : State TS) : Result TS :=
  frameOp .read addr data cmd crc s

/-- RD of an unknown address 0x20 to 0x3F (R121). -/
def execRdUnknown20 (addr : Addr) (data : Half) (cmd crc : BitVec 4) (s : State TS) : Result TS :=
  frameOp .read addr data cmd crc s

/-- RD of an unknown address 0x40 to 0x7F (R121). -/
def execRdUnknown40 (addr : Addr) (data : Half) (cmd crc : BitVec 4) (s : State TS) : Result TS :=
  frameOp .read addr data cmd crc s

end Sys2Proof.Machine
end

