-- ==== Sys2Proof/Machine/Writes.lean ====
section
/-! DEFINITION. Writes.lean: the WR rows of format MOSI_FRAME. Each is the MOSI side of finalize for its
address (42_register_map.md R125 to R145 for the registers, R121 and 60_exceptions.md R242 for the unknown
addresses); the field list is the register's entry in REGMAP. -/

namespace Sys2Proof.Machine

variable {TS : Type}

/-- WR DEVICE_CONFIG (R125). -/
def execWrDeviceConfig (data : Half) (cmd crc : BitVec 4) (s : State TS) : Result TS :=
  frameOp .write 0x00 data cmd crc s

/-- WR SENSOR_CONFIG (R126). -/
def execWrSensorConfig (data : Half) (cmd crc : BitVec 4) (s : State TS) : Result TS :=
  frameOp .write 0x01 data cmd crc s

/-- WR SYSTEM_CONFIG (R127). -/
def execWrSystemConfig (data : Half) (cmd crc : BitVec 4) (s : State TS) : Result TS :=
  frameOp .write 0x02 data cmd crc s

/-- WR ALERT_CONFIG (R128). -/
def execWrAlertConfig (data : Half) (cmd crc : BitVec 4) (s : State TS) : Result TS :=
  frameOp .write 0x03 data cmd crc s

/-- WR X_THRX_CONFIG (R129). -/
def execWrXThrxConfig (data : Half) (cmd crc : BitVec 4) (s : State TS) : Result TS :=
  frameOp .write 0x04 data cmd crc s

/-- WR Y_THRX_CONFIG (R130). -/
def execWrYThrxConfig (data : Half) (cmd crc : BitVec 4) (s : State TS) : Result TS :=
  frameOp .write 0x05 data cmd crc s

/-- WR Z_THRX_CONFIG (R131). -/
def execWrZThrxConfig (data : Half) (cmd crc : BitVec 4) (s : State TS) : Result TS :=
  frameOp .write 0x06 data cmd crc s

/-- WR T_THRX_CONFIG (R132). -/
def execWrTThrxConfig (data : Half) (cmd crc : BitVec 4) (s : State TS) : Result TS :=
  frameOp .write 0x07 data cmd crc s

/-- WR CONV_STATUS (R133). -/
def execWrConvStatus (data : Half) (cmd crc : BitVec 4) (s : State TS) : Result TS :=
  frameOp .write 0x08 data cmd crc s

/-- WR X_CH_RESULT (R134). -/
def execWrXChResult (data : Half) (cmd crc : BitVec 4) (s : State TS) : Result TS :=
  frameOp .write 0x09 data cmd crc s

/-- WR Y_CH_RESULT (R135). -/
def execWrYChResult (data : Half) (cmd crc : BitVec 4) (s : State TS) : Result TS :=
  frameOp .write 0x0A data cmd crc s

/-- WR Z_CH_RESULT (R136). -/
def execWrZChResult (data : Half) (cmd crc : BitVec 4) (s : State TS) : Result TS :=
  frameOp .write 0x0B data cmd crc s

/-- WR TEMP_RESULT (R137). -/
def execWrTempResult (data : Half) (cmd crc : BitVec 4) (s : State TS) : Result TS :=
  frameOp .write 0x0C data cmd crc s

/-- WR AFE_STATUS (R138). -/
def execWrAfeStatus (data : Half) (cmd crc : BitVec 4) (s : State TS) : Result TS :=
  frameOp .write 0x0D data cmd crc s

/-- WR SYS_STATUS (R139). -/
def execWrSysStatus (data : Half) (cmd crc : BitVec 4) (s : State TS) : Result TS :=
  frameOp .write 0x0E data cmd crc s

/-- WR TEST_CONFIG (R140). -/
def execWrTestConfig (data : Half) (cmd crc : BitVec 4) (s : State TS) : Result TS :=
  frameOp .write 0x0F data cmd crc s

/-- WR OSC_MONITOR (R141). -/
def execWrOscMonitor (data : Half) (cmd crc : BitVec 4) (s : State TS) : Result TS :=
  frameOp .write 0x10 data cmd crc s

/-- WR MAG_GAIN_CONFIG (R142). -/
def execWrMagGainConfig (data : Half) (cmd crc : BitVec 4) (s : State TS) : Result TS :=
  frameOp .write 0x11 data cmd crc s

/-- WR MAG_OFFSET_CONFIG (R143). -/
def execWrMagOffsetConfig (data : Half) (cmd crc : BitVec 4) (s : State TS) : Result TS :=
  frameOp .write 0x12 data cmd crc s

/-- WR ANGLE_RESULT (R144). -/
def execWrAngleResult (data : Half) (cmd crc : BitVec 4) (s : State TS) : Result TS :=
  frameOp .write 0x13 data cmd crc s

/-- WR MAGNITUDE_RESULT (R145). -/
def execWrMagnitudeResult (data : Half) (cmd crc : BitVec 4) (s : State TS) : Result TS :=
  frameOp .write 0x14 data cmd crc s

/-- WR UNKNOWN_0x15 (R121). -/
def execWrUnknown15 (data : Half) (cmd crc : BitVec 4) (s : State TS) : Result TS :=
  frameOp .write 0x15 data cmd crc s

/-- WR of an unknown address 0x16 to 0x17 (R121). -/
def execWrUnknown16 (addr : Addr) (data : Half) (cmd crc : BitVec 4) (s : State TS) : Result TS :=
  frameOp .write addr data cmd crc s

/-- WR of an unknown address 0x18 to 0x1F (R121). -/
def execWrUnknown18 (addr : Addr) (data : Half) (cmd crc : BitVec 4) (s : State TS) : Result TS :=
  frameOp .write addr data cmd crc s

/-- WR of an unknown address 0x20 to 0x3F (R121). -/
def execWrUnknown20 (addr : Addr) (data : Half) (cmd crc : BitVec 4) (s : State TS) : Result TS :=
  frameOp .write addr data cmd crc s

/-- WR of an unknown address 0x40 to 0x7F (R121). -/
def execWrUnknown40 (addr : Addr) (data : Half) (cmd crc : BitVec 4) (s : State TS) : Result TS :=
  frameOp .write addr data cmd crc s

end Sys2Proof.Machine
end

