-- ==== Sys2Proof/Machine/Finalize.lean ====
section
/-! DEFINITION. Finalize.lean: `finalize` (43_frame_assembler.md R171): the record of the open transaction,
assembled on the output port by the row that the MOSI frame decodes to and the row that `cfg.DATA_TYPE`
selects. -/

namespace Sys2Proof.Machine

variable {TS : Type}

/-- Run the operation of a MOSI_FRAME or DATA_TYPE row inside finalize. An EVENT row is no part of a
finalize and changes nothing here; `finalize` gives none. -/
def runRow (i : Instr TS) (s : State TS) : Result TS :=
  match i with
  | .enable _ => .next s
  | .enableRestart _ => .next s
  | .resultIgnored => .next s
  | .result _ _ _ => .next s
  | .disableIgnored => .next s
  | .disable _ => .next s
  | .reservedKind3 => .next s
  | .wrDeviceConfig d c k => execWrDeviceConfig d c k s
  | .wrSensorConfig d c k => execWrSensorConfig d c k s
  | .wrSystemConfig d c k => execWrSystemConfig d c k s
  | .wrAlertConfig d c k => execWrAlertConfig d c k s
  | .wrXThrxConfig d c k => execWrXThrxConfig d c k s
  | .wrYThrxConfig d c k => execWrYThrxConfig d c k s
  | .wrZThrxConfig d c k => execWrZThrxConfig d c k s
  | .wrTThrxConfig d c k => execWrTThrxConfig d c k s
  | .wrConvStatus d c k => execWrConvStatus d c k s
  | .wrXChResult d c k => execWrXChResult d c k s
  | .wrYChResult d c k => execWrYChResult d c k s
  | .wrZChResult d c k => execWrZChResult d c k s
  | .wrTempResult d c k => execWrTempResult d c k s
  | .wrAfeStatus d c k => execWrAfeStatus d c k s
  | .wrSysStatus d c k => execWrSysStatus d c k s
  | .wrTestConfig d c k => execWrTestConfig d c k s
  | .wrOscMonitor d c k => execWrOscMonitor d c k s
  | .wrMagGainConfig d c k => execWrMagGainConfig d c k s
  | .wrMagOffsetConfig d c k => execWrMagOffsetConfig d c k s
  | .wrAngleResult d c k => execWrAngleResult d c k s
  | .wrMagnitudeResult d c k => execWrMagnitudeResult d c k s
  | .wrUnknown15 d c k => execWrUnknown15 d c k s
  | .wrUnknown16 a d c k => execWrUnknown16 a d c k s
  | .wrUnknown18 a d c k => execWrUnknown18 a d c k s
  | .wrUnknown20 a d c k => execWrUnknown20 a d c k s
  | .wrUnknown40 a d c k => execWrUnknown40 a d c k s
  | .rdDeviceConfig d c k => execRdDeviceConfig d c k s
  | .rdSensorConfig d c k => execRdSensorConfig d c k s
  | .rdSystemConfig d c k => execRdSystemConfig d c k s
  | .rdAlertConfig d c k => execRdAlertConfig d c k s
  | .rdXThrxConfig d c k => execRdXThrxConfig d c k s
  | .rdYThrxConfig d c k => execRdYThrxConfig d c k s
  | .rdZThrxConfig d c k => execRdZThrxConfig d c k s
  | .rdTThrxConfig d c k => execRdTThrxConfig d c k s
  | .rdConvStatus d c k => execRdConvStatus d c k s
  | .rdXChResult d c k => execRdXChResult d c k s
  | .rdYChResult d c k => execRdYChResult d c k s
  | .rdZChResult d c k => execRdZChResult d c k s
  | .rdTempResult d c k => execRdTempResult d c k s
  | .rdAfeStatus d c k => execRdAfeStatus d c k s
  | .rdSysStatus d c k => execRdSysStatus d c k s
  | .rdTestConfig d c k => execRdTestConfig d c k s
  | .rdOscMonitor d c k => execRdOscMonitor d c k s
  | .rdMagGainConfig d c k => execRdMagGainConfig d c k s
  | .rdMagOffsetConfig d c k => execRdMagOffsetConfig d c k s
  | .rdAngleResult d c k => execRdAngleResult d c k s
  | .rdMagnitudeResult d c k => execRdMagnitudeResult d c k s
  | .rdUnknown15 d c k => execRdUnknown15 d c k s
  | .rdUnknown16 a d c k => execRdUnknown16 a d c k s
  | .rdUnknown18 a d c k => execRdUnknown18 a d c k s
  | .rdUnknown20 a d c k => execRdUnknown20 a d c k s
  | .rdUnknown40 a d c k => execRdUnknown40 a d c k s
  | .misoDefault => execMisoDefault s
  | .misoXy => execMisoXy s
  | .misoXz => execMisoXz s
  | .misoZy => execMisoZy s
  | .misoXt => execMisoXt s
  | .misoYt => execMisoYt s
  | .misoZt => execMisoZt s
  | .misoAm => execMisoAm s

/-- The record before the frame-level operations: the timestamps (R178), the length errors (R172), and what
the MISO frame gives in every mode and without the MOSI frame (R177, R179, 44_mode_decoders.md R201). All
else is `none` until an operation assigns it. -/
def beginRecord (ts1 : TS) (s : State TS) : Record TS :=
  let so := frameOf .miso s
  { tStart := s.tStart
    tEnd := ts1
    lenErrMosi := (frameOf .mosi s).isNone
    lenErrMiso := so.isNone
    mosiFrame := none
    misoFrame := so
    mosiCrc := none
    misoCrc := so.bind (crcReport s.cfg)
    dir := none
    addr := none
    regKnown := none
    mosiData := none
    misoData := none
    regValue := none
    fields := none
    ch1Raw := none
    ch2Raw := none
    ch1Val := none
    ch2Val := none
    cmd := none
    stat := so.bind (statReport s.cfg)
    errBit := match s.params.errorBitSource with
      | .mosi => none
      | .miso => so.bind (errBitReport s.cfg)
    stat8 := none
    err := 0
    regUnit := none
    thrHiUnit := none
    thrLoUnit := none
    ch1Unit := none
    ch2Unit := none }

/-- The register dispatch of finalize (R173 to R177): the row of the MOSI frame, if there is a frame. -/
def runMosiRow (s : State TS) : Result TS :=
  match frameOf .mosi s with
  | some m => runRow (decodeMosi m) s
  | none => .next s

/-- The mode dispatch of finalize (44_mode_decoders.md R190): the row of `cfg.DATA_TYPE`, if there is a MISO
frame. -/
def runModeRow (s : State TS) : Result TS :=
  match frameOf .miso s with
  | some _ => runRow (decodeDataType s.cfg.dataType) s
  | none => .next s

/-- The last assignment of finalize: the error vector (60_exceptions.md R245). -/
def closeRecord (r : Record TS) : Record TS := { r with err := errVector r }

/-- `finalize(cfg, st, t_start, ts1)` (R171): leaves the record on the output port and all else as it
was. -/
def finalize (ts1 : TS) (s : State TS) : Result TS :=
  andThen (runMosiRow (setOut (some (beginRecord ts1 s)) s)) fun s1 =>
    andThen (runModeRow s1) fun s2 => .next (mapOut closeRecord s2)

end Sys2Proof.Machine
end

