-- ==== Sys2Proof/Machine/Events.lean ====
section
/-! DEFINITION. Events.lean: the seven EVENT rows (43_frame_assembler.md R161 to R168). A row is a pair of a
state of the machine and an event kind; the decoder picks it by both (R160), so a meaning does not test
`fsm` again (entry 10). -/

namespace Sys2Proof.Machine

variable {TS : Type}

/-- ENABLE in WAIT_ENABLE (R161). -/
def execEnable (ts : TS) (s : State TS) : Result TS := .next (setOut none (openAt ts s))

/-- ENABLE in ACCUMULATING (R167): the bytes accumulated so far are discarded without a record. -/
def execEnableRestart (ts : TS) (s : State TS) : Result TS := .next (setOut none (openAt ts s))

/-- RESULT in WAIT_ENABLE (R162): ignored. -/
def execResultIgnored (s : State TS) : Result TS := .next (setOut none s)

/-- Both appends of a RESULT event (R165). -/
def appendBoth (mosi miso : Option Byte) (s : State TS) : State TS :=
  appendByte .miso miso (appendByte .mosi mosi s)

/-- The early-finalize test, made after both appends (R165, D9). -/
def firesEarly (s : State TS) : Bool :=
  s.cfg.earlyFinalize && (s.cntMosi == 4 || s.cntMiso == 4)

/-- RESULT in ACCUMULATING (R165): the appends, then the early-finalize policy, which re-opens accumulation
at the same timestamp. -/
def execResult (ts : TS) (mosi miso : Option Byte) (s : State TS) : Result TS :=
  let s1 := appendBoth mosi miso s
  if firesEarly s1 then andThen (finalize ts s1) fun s2 => .next (openAt ts s2)
  else .next (setOut none { s1 with fsm := .accumulating })

/-- DISABLE in WAIT_ENABLE (R163): ignored. -/
def execDisableIgnored (s : State TS) : Result TS := .next (setOut none s)

/-- No record for an empty transaction under `EMPTY_FINALIZE_EMITS = false` (R166, D10). -/
def suppressed (s : State TS) : Bool :=
  !s.params.emptyFinalizeEmits && s.cntMosi == 0 && s.cntMiso == 0

/-- DISABLE in ACCUMULATING (R166): finalize, then the unconditional clear. -/
def execDisable (ts : TS) (s : State TS) : Result TS :=
  if suppressed s then .next (setOut none (close s))
  else andThen (finalize ts s) fun s1 => .next (close s1)

/-- The reserved event kind (R168): ignored. -/
def execReservedKind3 (s : State TS) : Result TS := .next (setOut none s)

end Sys2Proof.Machine
end

