-- ==== Sys2Proof/Machine/Dispatch.lean ====
section
/-! DEFINITION. Dispatch.lean: one arm per instruction, each one call of its meaning, at the type
`Stamp` of timestamps (entry 3). -/

namespace Sys2Proof.Machine

def exec (i : Instr) (s : State) : Host.Outcome State Fault Refusal :=
  match i with
  | .enable ts => Sys2Proof.Machine.execEnable ts s
  | .enableRestart ts => Sys2Proof.Machine.execEnableRestart ts s
  | .resultIgnored => Sys2Proof.Machine.execResultIgnored s
  | .result ts mosi miso => Sys2Proof.Machine.execResult ts mosi miso s
  | .disableIgnored => Sys2Proof.Machine.execDisableIgnored s
  | .disable ts => Sys2Proof.Machine.execDisable ts s
  | .reservedKind3 => Sys2Proof.Machine.execReservedKind3 s
  | .wrDeviceConfig data cmd crc => Sys2Proof.Machine.execWrDeviceConfig data cmd crc s
  | .wrSensorConfig data cmd crc => Sys2Proof.Machine.execWrSensorConfig data cmd crc s
  | .wrSystemConfig data cmd crc => Sys2Proof.Machine.execWrSystemConfig data cmd crc s
  | .wrAlertConfig data cmd crc => Sys2Proof.Machine.execWrAlertConfig data cmd crc s
  | .wrXThrxConfig data cmd crc => Sys2Proof.Machine.execWrXThrxConfig data cmd crc s
  | .wrYThrxConfig data cmd crc => Sys2Proof.Machine.execWrYThrxConfig data cmd crc s
  | .wrZThrxConfig data cmd crc => Sys2Proof.Machine.execWrZThrxConfig data cmd crc s
  | .wrTThrxConfig data cmd crc => Sys2Proof.Machine.execWrTThrxConfig data cmd crc s
  | .wrConvStatus data cmd crc => Sys2Proof.Machine.execWrConvStatus data cmd crc s
  | .wrXChResult data cmd crc => Sys2Proof.Machine.execWrXChResult data cmd crc s
  | .wrYChResult data cmd crc => Sys2Proof.Machine.execWrYChResult data cmd crc s
  | .wrZChResult data cmd crc => Sys2Proof.Machine.execWrZChResult data cmd crc s
  | .wrTempResult data cmd crc => Sys2Proof.Machine.execWrTempResult data cmd crc s
  | .wrAfeStatus data cmd crc => Sys2Proof.Machine.execWrAfeStatus data cmd crc s
  | .wrSysStatus data cmd crc => Sys2Proof.Machine.execWrSysStatus data cmd crc s
  | .wrTestConfig data cmd crc => Sys2Proof.Machine.execWrTestConfig data cmd crc s
  | .wrOscMonitor data cmd crc => Sys2Proof.Machine.execWrOscMonitor data cmd crc s
  | .wrMagGainConfig data cmd crc => Sys2Proof.Machine.execWrMagGainConfig data cmd crc s
  | .wrMagOffsetConfig data cmd crc => Sys2Proof.Machine.execWrMagOffsetConfig data cmd crc s
  | .wrAngleResult data cmd crc => Sys2Proof.Machine.execWrAngleResult data cmd crc s
  | .wrMagnitudeResult data cmd crc => Sys2Proof.Machine.execWrMagnitudeResult data cmd crc s
  | .wrUnknown15 data cmd crc => Sys2Proof.Machine.execWrUnknown15 data cmd crc s
  | .wrUnknown16 addr data cmd crc => Sys2Proof.Machine.execWrUnknown16 addr data cmd crc s
  | .wrUnknown18 addr data cmd crc => Sys2Proof.Machine.execWrUnknown18 addr data cmd crc s
  | .wrUnknown20 addr data cmd crc => Sys2Proof.Machine.execWrUnknown20 addr data cmd crc s
  | .wrUnknown40 addr data cmd crc => Sys2Proof.Machine.execWrUnknown40 addr data cmd crc s
  | .rdDeviceConfig data cmd crc => Sys2Proof.Machine.execRdDeviceConfig data cmd crc s
  | .rdSensorConfig data cmd crc => Sys2Proof.Machine.execRdSensorConfig data cmd crc s
  | .rdSystemConfig data cmd crc => Sys2Proof.Machine.execRdSystemConfig data cmd crc s
  | .rdAlertConfig data cmd crc => Sys2Proof.Machine.execRdAlertConfig data cmd crc s
  | .rdXThrxConfig data cmd crc => Sys2Proof.Machine.execRdXThrxConfig data cmd crc s
  | .rdYThrxConfig data cmd crc => Sys2Proof.Machine.execRdYThrxConfig data cmd crc s
  | .rdZThrxConfig data cmd crc => Sys2Proof.Machine.execRdZThrxConfig data cmd crc s
  | .rdTThrxConfig data cmd crc => Sys2Proof.Machine.execRdTThrxConfig data cmd crc s
  | .rdConvStatus data cmd crc => Sys2Proof.Machine.execRdConvStatus data cmd crc s
  | .rdXChResult data cmd crc => Sys2Proof.Machine.execRdXChResult data cmd crc s
  | .rdYChResult data cmd crc => Sys2Proof.Machine.execRdYChResult data cmd crc s
  | .rdZChResult data cmd crc => Sys2Proof.Machine.execRdZChResult data cmd crc s
  | .rdTempResult data cmd crc => Sys2Proof.Machine.execRdTempResult data cmd crc s
  | .rdAfeStatus data cmd crc => Sys2Proof.Machine.execRdAfeStatus data cmd crc s
  | .rdSysStatus data cmd crc => Sys2Proof.Machine.execRdSysStatus data cmd crc s
  | .rdTestConfig data cmd crc => Sys2Proof.Machine.execRdTestConfig data cmd crc s
  | .rdOscMonitor data cmd crc => Sys2Proof.Machine.execRdOscMonitor data cmd crc s
  | .rdMagGainConfig data cmd crc => Sys2Proof.Machine.execRdMagGainConfig data cmd crc s
  | .rdMagOffsetConfig data cmd crc => Sys2Proof.Machine.execRdMagOffsetConfig data cmd crc s
  | .rdAngleResult data cmd crc => Sys2Proof.Machine.execRdAngleResult data cmd crc s
  | .rdMagnitudeResult data cmd crc => Sys2Proof.Machine.execRdMagnitudeResult data cmd crc s
  | .rdUnknown15 data cmd crc => Sys2Proof.Machine.execRdUnknown15 data cmd crc s
  | .rdUnknown16 addr data cmd crc => Sys2Proof.Machine.execRdUnknown16 addr data cmd crc s
  | .rdUnknown18 addr data cmd crc => Sys2Proof.Machine.execRdUnknown18 addr data cmd crc s
  | .rdUnknown20 addr data cmd crc => Sys2Proof.Machine.execRdUnknown20 addr data cmd crc s
  | .rdUnknown40 addr data cmd crc => Sys2Proof.Machine.execRdUnknown40 addr data cmd crc s
  | .misoDefault => Sys2Proof.Machine.execMisoDefault s
  | .misoXy => Sys2Proof.Machine.execMisoXy s
  | .misoXz => Sys2Proof.Machine.execMisoXz s
  | .misoZy => Sys2Proof.Machine.execMisoZy s
  | .misoXt => Sys2Proof.Machine.execMisoXt s
  | .misoYt => Sys2Proof.Machine.execMisoYt s
  | .misoZt => Sys2Proof.Machine.execMisoZt s
  | .misoAm => Sys2Proof.Machine.execMisoAm s

end Sys2Proof.Machine
end

