-- ==== Sys2Proof/Machine/Fetch.lean ====
section
/-! DEFINITION. Fetch.lean: what a step takes from the inputs, and how a number of the opcode table is put
where the next step takes it. The block fetches no code (10_state.md R27): an event row is selected by the
next event, a MOSI_FRAME row by the bytes of the MOSI buffer when a transaction is finalized, a DATA_TYPE
row by `cfg` (30_encoding.md R81; entry 8). -/

namespace Sys2Proof.Machine

variable {TS : Type}

/-- What the next input asks for. -/
inductive Fetched (TS : Type := Stamp) where
  /-- No event: the state after the step. -/
  | done (s : State TS)
  /-- An event: its instruction, and the state it runs in. -/
  | run (i : Instr TS) (s : State TS)
deriving DecidableEq, Repr

/-- Take the next input. With none waiting only the output port changes: no record was produced in this step
(entry 6). A construct input resets the block (70_reset_and_hazards.md R270; entry 12). -/
def fetch (s : State TS) : Fetched TS :=
  match s.inbox with
  | [] => .done (setOut none s)
  | .event ev :: rest => .run (decodeEvent s.fsm ev) { s with inbox := rest }
  | .construct cfg :: rest => .done (construct cfg { s with inbox := rest })

/-- Put an event at the head of the inputs. -/
def offer (ev : Event TS) (s : State TS) : State TS := { s with inbox := .event ev :: s.inbox }

/-- Fill one side's buffer with the four bytes of a frame (20_memory.md R54). -/
def loadSide (side : Side) (m : Frame) (s : State TS) : State TS :=
  (s.withBuffer side ((bytesOfFrame m).zipIdx.map fun p => (p.2, p.1))).withCount side 4

/-- The frame that a side would assemble now, or the zero frame. -/
def frameOrZero (side : Side) (s : State TS) : Frame := (frameOf side s).getD 0

/-- Put a number of the opcode table where the next step takes its operation from (entry 8). An event: at the
head of the inputs, in WAIT_ENABLE. A MOSI frame: in the MOSI buffer of an open transaction that a DISABLE
is about to finalize. A data type: in `cfg`, with a MISO frame in the buffer, again before a DISABLE. The event carries the timestamp `filler`. -/
def placeWord (filler : TS) (s : State TS) (nbits w : Nat) : State TS :=
  match tableWord nbits w with
  | .event k => offer (plainEvent k filler) { s with fsm := .waitEnable }
  | .frame m => offer (plainEvent 2 filler) (loadSide .mosi m { s with fsm := .accumulating })
  | .dataType c =>
    offer (plainEvent 2 filler)
      (loadSide .miso (frameOrZero .miso s)
        { s with fsm := .accumulating, cfg := { s.cfg with dataType := DataType.ofCode c } })

end Sys2Proof.Machine
end

