-- ==== Sys2Proof/Machine/Step.lean ====
section
/-! DEFINITION. Step.lean: one step of the block: one input taken, its whole effect completed (00_scope.md
R12, 20_memory.md R59). -/

namespace Sys2Proof.Machine

/-- One step, at the type `Stamp` of timestamps (entry 3). -/
def step (s : State) : Host.Outcome State Fault Refusal :=
  match fetch s with
  | .done t => .next t
  | .run i t => exec i t

/-- The state with a number of the opcode table where `step` takes its next operation from (entry 8). -/
def State.withFetchWord (s : State) (nbits w : Nat) : State := placeWord Stamp.unset s nbits w

end Sys2Proof.Machine
end

