-- ==== Sys2Proof/Machine/ConfigWord.lean ====
section
/-! DEFINITION. ConfigWord.lean: the packings of 10_state.md R21, R32 and R38 (D14 to D16). The model
keeps structures; nothing else depends on these words. -/

namespace Sys2Proof.Machine

/-- `fsm` as one bit (10_state.md R21). -/
def fsmBit : Fsm → BitVec 1
  | .waitEnable => 0
  | .accumulating => 1

/-- The status bit of a CRC result (41_crc4.md R112, D23). -/
def crcStatusBit : CrcStatus → BitVec 1
  | .ok => 0
  | .error => 1

/-- The direction as `M[31]` (43_frame_assembler.md R173). -/
def dirBit : Dir → BitVec 1
  | .write => 0
  | .read => 1

/-- The code of a range (10_state.md R32). -/
def brCode : BrRange → BitVec 3
  | .notSelected => 0
  | .mT25 => 1
  | .mT50 => 2
  | .mT100 => 3
  | .mT75 => 4
  | .mT150 => 5
  | .mT300 => 6

/-- The range of a code; code 7 is reserved and refused here (10_state.md R32, D34). -/
def brOfCode (c : BitVec 3) : Option BrRange :=
  match c.toNat with
  | 0 => some .notSelected
  | 1 => some .mT25
  | 2 => some .mT50
  | 3 => some .mT100
  | 4 => some .mT75
  | 5 => some .mT150
  | 6 => some .mT300
  | _ => none

/-- `CFG[16:0]` (10_state.md R38). -/
def packConfig (c : DecoderConfig) : BitVec 17 :=
  BitVec.ofBool c.earlyFinalize ++ BitVec.ofBool c.stat8En ++ BitVec.ofBool c.statNibbleEn ++
    BitVec.ofBool c.crcCheckEn ++ BitVec.ofBool c.convEn ++ brCode c.brZ ++ brCode c.brY ++
    brCode c.brX ++ c.dataType.code

/-- The configuration of a word; no configuration for a reserved range code (R38, D34). -/
def unpackConfig (w : BitVec 17) : Option DecoderConfig :=
  (brOfCode (w.extractLsb' 3 3)).bind fun x =>
    (brOfCode (w.extractLsb' 6 3)).bind fun y =>
      (brOfCode (w.extractLsb' 9 3)).map fun z =>
        { dataType := DataType.ofCode (w.extractLsb' 0 3), brX := x, brY := y, brZ := z,
          convEn := w.getLsbD 12, crcCheckEn := w.getLsbD 13, statNibbleEn := w.getLsbD 14,
          stat8En := w.getLsbD 15, earlyFinalize := w.getLsbD 16 }

end Sys2Proof.Machine
end

