-- ==== Sys2Proof/Machine/AnyTime.lean ====
section
/-! DEFINITION. AnyTime.lean: the step over an arbitrary type `TS` of timestamps, the parameter of 00_scope.md
R6 (D4, entry 3). `exec` and `step` are the same functions at the type `Stamp`, which their fixed names
require. -/

namespace Sys2Proof.Machine

variable {TS : Type}

/-- What an instruction does, over any type of timestamps: an event row has its own meaning, and every other
row is the row that a finalize runs. -/
def execOver (i : Instr TS) (s : State TS) : Result TS :=
  match i with
  | .enable ts => execEnable ts s
  | .enableRestart ts => execEnableRestart ts s
  | .resultIgnored => execResultIgnored s
  | .result ts mosi miso => execResult ts mosi miso s
  | .disableIgnored => execDisableIgnored s
  | .disable ts => execDisable ts s
  | .reservedKind3 => execReservedKind3 s
  | row => runRow row s

/-- One step, over any type of timestamps (00_scope.md R6, R12). -/
def stepOver (s : State TS) : Result TS :=
  match fetch s with
  | .done t => .next t
  | .run i t => execOver i t

end Sys2Proof.Machine
end

