-- ==== Sys2Proof/Safety.lean ====
section
/-! DEFINITION. Safety.lean: what counts as a good state and a good record, in the terms that statements
use. The formulas here are written from the spec's tables, on the bits of the frames, and not over the
operations of the machine, so that a statement compares two readings of the spec. -/

namespace Sys2Proof.Machine

variable {TS : Type}

/-! ## The invariant of the state -/

/-- What every reachable state keeps (10_state.md R22 to R24, R41; 20_memory.md R57). -/
structure State.Inv (s : State TS) : Prop where
  /-- A counter is 0 to 5 (R24). -/
  cntMosi_le : s.cntMosi.toNat ≤ 5
  cntMiso_le : s.cntMiso.toNat ≤ 5
  /-- Exactly the cells below the counter, and below 4, hold a value, in rising order (R22, R23). -/
  cellsMosi : s.bufMosi.map Prod.fst = List.range (min s.cntMosi.toNat 4)
  cellsMiso : s.bufMiso.map Prod.fst = List.range (min s.cntMiso.toNat 4)
  /-- Outside a transaction nothing is accumulated (43_frame_assembler.md R170). -/
  idle_empty : s.fsm = .waitEnable → s.cntMosi = 0 ∧ s.cntMiso = 0
  /-- Under the early-finalize policy no side rests with four or more bytes (R57, R165). -/
  early_below : s.cfg.earlyFinalize = true → s.cntMosi.toNat < 4 ∧ s.cntMiso.toNat < 4

/-! ## The record table of 30_encoding.md R78 -/

/-- The channels of a mode are signed or not, channel 1 first (44_mode_decoders.md R190's table). -/
def channelsSigned : DataType → Bool × Bool
  | .default => (false, false)
  | .xy => (true, true)
  | .xz => (true, true)
  | .zy => (true, true)
  | .xt => (true, false)
  | .yt => (true, false)
  | .zt => (true, false)
  | .am => (false, false)

/-- The value of a 12-bit lane (44_mode_decoders.md R200): two's complement when signed. -/
def laneValue (signed : Bool) (c : BitVec 12) : Int := if signed then c.toInt else c.toNat

/-- The check of 41_crc4.md R112 on a frame, as the three fields it has. -/
def crcTriple (f : Frame) : CrcResult :=
  { status := if crc4Calc f = f.extractLsb' 0 4 then .ok else .error
    calculated := crc4Calc f
    fromBus := f.extractLsb' 0 4 }

/-- The rows of the table of 30_encoding.md R78 but for the timestamps and the `err` vector: each field from
the two frames of the record, the configuration and the parameters; and that an annotation is absent without
the value it annotates (45_unit_conversion.md R230). -/
structure RecordFields (c : DecoderConfig) (p : Params) (r : Record TS) : Prop where
  lenErrMosi : r.lenErrMosi = r.mosiFrame.isNone
  lenErrMiso : r.lenErrMiso = r.misoFrame.isNone
  mosiCrc : r.mosiCrc = if c.crcCheckEn then r.mosiFrame.map crcTriple else none
  misoCrc : r.misoCrc = if c.crcCheckEn then r.misoFrame.map crcTriple else none
  dir : r.dir = r.mosiFrame.map fun m => if m.getLsbD 31 then Dir.read else Dir.write
  addr : r.addr = r.mosiFrame.map fun m => m.extractLsb' 24 7
  regKnown : r.regKnown = r.mosiFrame.map fun m => decide ((m.extractLsb' 24 7).toNat ≤ 0x14)
  mosiData : r.mosiData = r.mosiFrame.map fun m => m.extractLsb' 8 16
  misoData : r.misoData = if c.dataType = .default then r.misoFrame.map fun f => f.extractLsb' 8 16 else none
  regValue : r.regValue = r.mosiFrame.bind fun m =>
    if m.getLsbD 31 = false then some (m.extractLsb' 8 16)
    else if c.dataType = .default then r.misoFrame.map fun f => f.extractLsb' 8 16
    else none
  fields : r.fields = r.mosiFrame.bind fun m =>
    r.regValue.bind fun v => (lookup p.regmap (m.extractLsb' 24 7)).map fun d => unpack d v
  ch1Raw : r.ch1Raw =
    if c.dataType = .default then none
    else r.misoFrame.map fun f => f.extractLsb' 16 8 ++ f.extractLsb' 8 4
  ch2Raw : r.ch2Raw =
    if c.dataType = .default then none
    else r.misoFrame.map fun f => f.extractLsb' 24 8 ++ f.extractLsb' 12 4
  ch1Val : r.ch1Val = r.ch1Raw.map (laneValue (channelsSigned c.dataType).1)
  ch2Val : r.ch2Val = r.ch2Raw.map (laneValue (channelsSigned c.dataType).2)
  cmd : r.cmd = if c.statNibbleEn then r.mosiFrame.map fun m => m.extractLsb' 4 4 else none
  stat : r.stat = if c.statNibbleEn then r.misoFrame.map fun f => f.extractLsb' 4 3 else none
  errBit : r.errBit =
    if c.statNibbleEn then
      match p.errorBitSource with
      | .mosi => r.mosiFrame.map fun m => m.getLsbD 7
      | .miso => r.misoFrame.map fun f => f.getLsbD 7
    else none
  stat8 : r.stat8 =
    if c.dataType = .default ∧ c.stat8En = true then r.misoFrame.map fun f => f.extractLsb' 24 8 else none
  regUnits : r.fields = none → r.regUnit = none ∧ r.thrHiUnit = none ∧ r.thrLoUnit = none
  ch1Unit : r.ch1Val = none → r.ch1Unit = none
  ch2Unit : r.ch2Val = none → r.ch2Unit = none

/-- The error vector of 60_exceptions.md R245, bit by bit. -/
structure RecordErrors (r : Record TS) : Prop where
  lenMosi : r.err.getLsbD 0 = true ↔ r.mosiFrame = none
  lenMiso : r.err.getLsbD 1 = true ↔ r.misoFrame = none
  crcMosi : r.err.getLsbD 2 = true ↔ ∃ x, r.mosiCrc = some x ∧ x.status = .error
  crcMiso : r.err.getLsbD 3 = true ↔ ∃ x, r.misoCrc = some x ∧ x.status = .error
  unknownReg : r.err.getLsbD 4 = true ↔ r.regKnown = some false

/-- A record with its two timestamps renamed, into any type of timestamps. -/
def Record.relabel {US : Type} (f : TS → US) (r : Record TS) : Record US :=
  { tStart := f r.tStart, tEnd := f r.tEnd, lenErrMosi := r.lenErrMosi, lenErrMiso := r.lenErrMiso,
    mosiFrame := r.mosiFrame, misoFrame := r.misoFrame, mosiCrc := r.mosiCrc, misoCrc := r.misoCrc,
    dir := r.dir, addr := r.addr, regKnown := r.regKnown, mosiData := r.mosiData, misoData := r.misoData,
    regValue := r.regValue, fields := r.fields, ch1Raw := r.ch1Raw, ch2Raw := r.ch2Raw,
    ch1Val := r.ch1Val, ch2Val := r.ch2Val, cmd := r.cmd, stat := r.stat, errBit := r.errBit,
    stat8 := r.stat8, err := r.err, regUnit := r.regUnit, thrHiUnit := r.thrHiUnit,
    thrLoUnit := r.thrLoUnit, ch1Unit := r.ch1Unit, ch2Unit := r.ch2Unit }

/-- An input with its timestamp renamed. -/
def relabelInput {US : Type} (f : TS → US) : Input TS → Input US
  | .event ev =>
    .event { kind := ev.kind, ts := f ev.ts, mosiValid := ev.mosiValid, mosi := ev.mosi,
             misoValid := ev.misoValid, miso := ev.miso }
  | .construct c => .construct c

/-- A state with every timestamp in it renamed: the latch, those of the record on the output port, and
those of the inputs not yet taken. -/
def State.relabel {US : Type} (f : TS → US) (s : State TS) : State US :=
  { fsm := s.fsm, bufMosi := s.bufMosi, cntMosi := s.cntMosi, bufMiso := s.bufMiso, cntMiso := s.cntMiso,
    tStart := f s.tStart, cfg := s.cfg, params := s.params, out := s.out.map (Record.relabel f),
    inbox := s.inbox.map (relabelInput f) }

/-- A record without its two pass-through timestamps (43_frame_assembler.md R181): the one timestamp that
stands there tells nothing. -/
def Record.withoutTimes (r : Record TS) : Record Unit := r.relabel fun _ => ()

/-- A record without its annotations (45_unit_conversion.md R231). -/
def Record.withoutUnits (r : Record TS) : Record TS :=
  { r with regUnit := none, thrHiUnit := none, thrLoUnit := none, ch1Unit := none, ch2Unit := none }

/-- A record without what the CRC check reports (60_exceptions.md R241): the two results and the two bits
of the error vector. -/
def Record.withoutCrc (r : Record TS) : Record TS :=
  { r with mosiCrc := none, misoCrc := none, err := r.err &&& 0b10011#5 }

/-! ## What the frame-level rows do to the record being assembled -/

/-- The MOSI side of a record after a MOSI_FRAME row, from the row's operands (43_frame_assembler.md R173
to R177, 44_mode_decoders.md R201; without fields no register annotation, 45_unit_conversion.md R230), and
what the row leaves as it was. -/
structure MosiSideDone (c : DecoderConfig) (p : Params) (way : Dir) (at_ : Addr) (payload16 : Half)
    (nibble crc4 : BitVec 4) (r r' : Record TS) : Prop where
  frame : r'.mosiFrame = some (BitVec.ofBool (way == .read) ++ at_ ++ payload16 ++ nibble ++ crc4)
  crcResult : r'.mosiCrc = if c.crcCheckEn then r'.mosiFrame.map crcTriple else none
  dir : r'.dir = some way
  addr : r'.addr = some at_
  regKnown : r'.regKnown = some (decide (at_.toNat ≤ 0x14))
  mosiData : r'.mosiData = some payload16
  regValue : r'.regValue =
    if way = .write then some payload16
    else if c.dataType = .default then r.misoFrame.map fun f => f.extractLsb' 8 16
    else none
  fields : r'.fields = r'.regValue.bind fun v => (lookup p.regmap at_).map fun d => unpack d v
  regUnits : r'.fields = none → r'.regUnit = none ∧ r'.thrHiUnit = none ∧ r'.thrLoUnit = none
  cmd : r'.cmd = if c.statNibbleEn then some nibble else none
  errBit : r'.errBit =
    match p.errorBitSource with
    | .mosi => if c.statNibbleEn then some (nibble.getLsbD 3) else none
    | .miso => r.errBit
  same : r'.tStart = r.tStart ∧ r'.tEnd = r.tEnd ∧ r'.lenErrMosi = r.lenErrMosi ∧
    r'.lenErrMiso = r.lenErrMiso ∧ r'.misoFrame = r.misoFrame ∧ r'.misoCrc = r.misoCrc ∧
    r'.misoData = r.misoData ∧ r'.ch1Raw = r.ch1Raw ∧ r'.ch2Raw = r.ch2Raw ∧ r'.ch1Val = r.ch1Val ∧
    r'.ch2Val = r.ch2Val ∧ r'.stat = r.stat ∧ r'.stat8 = r.stat8 ∧ r'.err = r.err ∧
    r'.ch1Unit = r.ch1Unit ∧ r'.ch2Unit = r.ch2Unit

/-- The fields that a DATA_TYPE row leaves as they were (44_mode_decoders.md R191 to R198). -/
def ModeKeeps (r r' : Record TS) : Prop :=
  r'.tStart = r.tStart ∧ r'.tEnd = r.tEnd ∧ r'.lenErrMosi = r.lenErrMosi ∧
    r'.lenErrMiso = r.lenErrMiso ∧ r'.mosiFrame = r.mosiFrame ∧ r'.misoFrame = r.misoFrame ∧
    r'.mosiCrc = r.mosiCrc ∧ r'.misoCrc = r.misoCrc ∧ r'.dir = r.dir ∧ r'.addr = r.addr ∧
    r'.regKnown = r.regKnown ∧ r'.mosiData = r.mosiData ∧ r'.regValue = r.regValue ∧
    r'.fields = r.fields ∧ r'.cmd = r.cmd ∧ r'.stat = r.stat ∧ r'.errBit = r.errBit ∧
    r'.err = r.err ∧ r'.regUnit = r.regUnit ∧ r'.thrHiUnit = r.thrHiUnit ∧ r'.thrLoUnit = r.thrLoUnit

/-- The two lanes of a MISO frame in the special format, each with its value (44_mode_decoders.md R199,
R200), and no register data and no 8-bit status (R192). -/
def LanesDone (signed1 signed2 : Bool) (f : Frame) (r' : Record TS) : Prop :=
  r'.ch1Raw = some (f.extractLsb' 16 8 ++ f.extractLsb' 8 4) ∧
    r'.ch2Raw = some (f.extractLsb' 24 8 ++ f.extractLsb' 12 4) ∧
    r'.ch1Val = some (laneValue signed1 (f.extractLsb' 16 8 ++ f.extractLsb' 8 4)) ∧
    r'.ch2Val = some (laneValue signed2 (f.extractLsb' 24 8 ++ f.extractLsb' 12 4)) ∧
    r'.misoData = none ∧ r'.stat8 = none

/-- The full-scale ranges in millitesla, by their names (45_unit_conversion.md R224, 10_state.md R32). -/
def rangeMilliTesla : BrRange → Option Q
  | .notSelected => none
  | .mT25 => some 25
  | .mT50 => some 50
  | .mT100 => some 100
  | .mT75 => some 75
  | .mT150 => some 150
  | .mT300 => some 300

/-- `exec i` at `s` completes and leaves these register fields in the record being assembled. -/
def Unpacks (i : Instr) (s : State) (fs : List (FieldName × Int)) : Prop :=
  ∃ t r, exec i s = .next t ∧ t.out = some r ∧ r.fields = some fs

/-- The unsigned slice `v[lsb+w-1 : lsb]` of a payload, as a number (42_register_map.md R122). -/
def ubits (v : Half) (lsb w : Nat) : Int := (v.extractLsb' lsb w).toNat

/-- The same slice in two's complement (42_register_map.md R122, R123). -/
def sbits (v : Half) (lsb w : Nat) : Int := (v.extractLsb' lsb w).toInt

/-- With the default table, the WR row unpacks its own data into `L`, in every mode, and the RD row, in the
regular mode, unpacks bits 23:8 of the MISO frame into `L` (30_encoding.md R79, 42_register_map.md R148). -/
def RegisterUnpacksAs (wr rd : Half → BitVec 4 → BitVec 4 → Instr) (L : Half → List (FieldName × Int)) :
    Prop :=
  (∀ (s : State) (r : Record) (v : Half) (c k : BitVec 4),
    s.params.regmap = defaultRegmap → s.out = some r → Unpacks (wr v c k) s (L v)) ∧
  (∀ (s : State) (r : Record) (f : Frame) (d : Half) (c k : BitVec 4),
    s.params.regmap = defaultRegmap → s.out = some r → s.cfg.dataType = .default → r.misoFrame = some f →
      Unpacks (rd d c k) s (L (f.extractLsb' 8 16)))

/-- `exec i` at `s` completes and leaves these register annotations in the record being assembled. -/
def Annotates (i : Instr) (s : State) (u : RegUnits) : Prop :=
  ∃ t r, exec i s = .next t ∧ t.out = some r ∧ r.regUnit = u.reg ∧ r.thrHiUnit = u.thrHi ∧
    r.thrLoUnit = u.thrLo

/-- With the default table, the WR row and (in the regular mode) the RD row of a register attach the
annotations `U` of the payload (45_unit_conversion.md R230, R231). -/
def RegisterAnnotatedAs (wr rd : Half → BitVec 4 → BitVec 4 → Instr)
    (U : DecoderConfig → Params → Half → RegUnits) : Prop :=
  (∀ (s : State) (r : Record) (v : Half) (c k : BitVec 4),
    s.params.regmap = defaultRegmap → s.out = some r → Annotates (wr v c k) s (U s.cfg s.params v)) ∧
  (∀ (s : State) (r : Record) (f : Frame) (d : Half) (c k : BitVec 4),
    s.params.regmap = defaultRegmap → s.out = some r → s.cfg.dataType = .default → r.misoFrame = some f →
      Annotates (rd d c k) s (U s.cfg s.params (f.extractLsb' 8 16)))

/-- A transaction of four byte pairs between an ENABLE and a DISABLE (30_encoding.md R85, `XFER`). -/
def xfer (t0 t1 : TS) (m f : Frame) : List (Input TS) :=
  [ .event (plainEvent 0 t0),
    .event (resultEvent t0 (some (m.extractLsb' 24 8)) (some (f.extractLsb' 24 8))),
    .event (resultEvent t0 (some (m.extractLsb' 16 8)) (some (f.extractLsb' 16 8))),
    .event (resultEvent t0 (some (m.extractLsb' 8 8)) (some (f.extractLsb' 8 8))),
    .event (resultEvent t0 (some (m.extractLsb' 0 8)) (some (f.extractLsb' 0 8))),
    .event (plainEvent 2 t1) ]

/-! ## The CRC as polynomial division (41_crc4.md R113 b) -/

/-- Long division over GF(2) by `x^4 + x + 1`: clear the bits from `n + 3` down to 4 of a 36-bit dividend.
What is left is the remainder. -/
def polyReduce : Nat → BitVec 36 → BitVec 36
  | 0, d => d
  | n + 1, d => polyReduce n (if d.getLsbD (n + 4) then d ^^^ (0b10011#36 <<< n) else d)

/-- The remainder of `0xF x^32 + p x^4`, for the 32-bit message `p`, modulo `x^4 + x + 1`. -/
def polyRemainder (p : BitVec 32) : BitVec 4 :=
  (polyReduce 32 ((0xF#4 ++ 0#32) ^^^ (p ++ 0#4))).extractLsb' 0 4

end Sys2Proof.Machine
end

