-- ==== Sys2Proof/Certificates/Slice0/Obligations.lean ====
section
/-! DEFINITION. Obligations.lean: the statements for the provers. Each docstring names the rule of spec/ it
formalises; where a statement rests on a decision of the spec (92_eei_decisions.md D<n>), on the spec's own
inference, or on a choice of the model (entry <n> of the assumption log), it says so. -/

open Sys2Proof Sys2Proof.Machine

/-! ## Decoding and encoding -/

/-- Decoding the word of a well-formed instruction gives it back, for every instruction and every value of
its operands, over any type of timestamps and for any timestamp in the words of events that read none
(30_encoding.md R71, R72, R81; the codes are the spec's D2, D3, D14). -/
def Obligations.DecodeOfEncodeIsTheInstruction : Prop :=
  ∀ (TS : Type) (filler : TS) (i : Instr TS), i.wellFormed = true → decode (encode filler i) = .ok i

/-- Every 32-bit value is a MOSI frame, of exactly one row, and no bit of it is lost (30_encoding.md R81,
R83). -/
def Obligations.EveryMosiFrameEncodesBack : Prop :=
  ∀ (TS : Type) (filler : TS) (m : Frame), (decodeMosi m : Instr TS).wellFormed = true ∧
    encode filler (decodeMosi m) = .frame (bytesOfFrame m)

/-- Bytes are a frame exactly when there are four, the first the most significant; any other length is
reported as the length error, by the decoder by name (40_bit_utilities.md R104, 20_memory.md R56; the decoder of
bytes is the model's). -/
def Obligations.OnlyFourBytesAreAFrame : Prop :=
  (∀ (b : List Byte) (len : Nat), len ≠ 4 → bytesToU32be b len = none) ∧
  (∀ b0 b1 b2 b3 : Byte, ∃ f, bytesToU32be [b0, b1, b2, b3] 4 = some f ∧
    f.toNat = b0.toNat * 2 ^ 24 + b1.toNat * 2 ^ 16 + b2.toNat * 2 ^ 8 + b3.toNat ∧
    decode (.frame [b0, b1, b2, b3] : Code) = .ok (decodeMosi f)) ∧
  (∀ bytes : List Byte, bytes.length ≠ 4 → decode (.frame bytes : Code) = .error (.lengthError bytes.length))

/-- Which EVENT row an event selects: by its kind and the state of the machine (43_frame_assembler.md R160,
R170; kind codes D2). A side whose valid bit is 0 delivers no byte, and ENABLE and DISABLE ignore the byte
fields (30_encoding.md R71). -/
def Obligations.EventRowsAreSelectedByKindAndState : Prop :=
  ∀ (TS : Type) (ev : Event TS),
    (ev.kind = 0 → decodeEvent .waitEnable ev = .enable ev.ts ∧
      decodeEvent .accumulating ev = .enableRestart ev.ts) ∧
    (ev.kind = 1 → decodeEvent .waitEnable ev = .resultIgnored ∧
      decodeEvent .accumulating ev =
        .result ev.ts (if ev.mosiValid then some ev.mosi else none)
          (if ev.misoValid then some ev.miso else none)) ∧
    (ev.kind = 2 → decodeEvent .waitEnable ev = .disableIgnored ∧
      decodeEvent .accumulating ev = .disable ev.ts) ∧
    (ev.kind = 3 → decodeEvent .waitEnable ev = .reservedKind3 ∧
      decodeEvent .accumulating ev = .reservedKind3)

/-- A few words of the opcode table, written out from the encodings of 30_encoding.md R72, R81 and
10_state.md R31 (data type codes: D14), decode to their rows. -/
def Obligations.WordsOfTheTableDecodeToTheirRows : Prop :=
  decode (.frame [0x0F, 0x00, 0x04, 0x07] : Code) = .ok (.wrTestConfig 0x0004 0x0 0x7) ∧
  decode (.frame [0x89, 0x00, 0x00, 0x15] : Code) = .ok (.rdXChResult 0x0000 0x1 0x5) ∧
  decode (.frame [0x15, 0x12, 0x34, 0x08] : Code) = .ok (.wrUnknown15 0x1234 0x0 0x8) ∧
  decode (.frame [0xFF, 0x00, 0x00, 0x07] : Code) = .ok (.rdUnknown40 0x7F 0x0000 0x0 0x7) ∧
  decode (.dataType 3 : Code) = .ok .misoZy ∧ decode (.dataType 7 : Code) = .ok .misoAm

/-- The configuration word of 10_state.md R38 (packing D16): packing and unpacking are inverse, and a word is
refused exactly when one of its range codes is the reserved 7 (D34). Every field stands at its own bits, the
data type and the ranges by their codes, in the order of 10_state.md R31 and R32 (D14, D15). -/
def Obligations.ConfigurationWordRoundTrips : Prop :=
  (∀ c : DecoderConfig, unpackConfig (packConfig c) = some c) ∧
  (∀ (w : BitVec 17) (c : DecoderConfig), unpackConfig w = some c → packConfig c = w) ∧
  (∀ w : BitVec 17, unpackConfig w = none ↔
    w.extractLsb' 3 3 = 7 ∨ w.extractLsb' 6 3 = 7 ∨ w.extractLsb' 9 3 = 7) ∧
  (∀ c : DecoderConfig,
    (packConfig c).extractLsb' 0 3 = c.dataType.code ∧ (packConfig c).extractLsb' 3 3 = brCode c.brX ∧
    (packConfig c).extractLsb' 6 3 = brCode c.brY ∧ (packConfig c).extractLsb' 9 3 = brCode c.brZ ∧
    (packConfig c).getLsbD 12 = c.convEn ∧ (packConfig c).getLsbD 13 = c.crcCheckEn ∧
    (packConfig c).getLsbD 14 = c.statNibbleEn ∧ (packConfig c).getLsbD 15 = c.stat8En ∧
    (packConfig c).getLsbD 16 = c.earlyFinalize) ∧
  [DataType.default, .xy, .xz, .zy, .xt, .yt, .zt, .am].map DataType.code = [0, 1, 2, 3, 4, 5, 6, 7] ∧
  [BrRange.notSelected, .mT25, .mT50, .mT100, .mT75, .mT150, .mT300].map brCode = [0, 1, 2, 3, 4, 5, 6]

/-! ## The step -/

/-- When the next input is an event, the step is `exec` of the row that the event selects, in the same state
with that input taken (00_scope.md R12, 43_frame_assembler.md R160; the input list is the model's, entry
6). -/
def Obligations.StepRunsTheDecodedEvent : Prop :=
  ∀ (s : State) (ev : Event) (rest : List Input), s.inbox = .event ev :: rest →
    step s = exec (decodeEvent s.fsm ev) { s with inbox := rest }

/-- Every step answers a next state, from any state (60_exceptions.md R249: "it never faults and never
refuses"). -/
def Obligations.EveryStepAnswersANextState : Prop :=
  ∀ s : State, ∃ t, step s = .next t

/-- A step that finalizes on DISABLE runs, through `exec`, the MOSI_FRAME row that the assembled MOSI frame
decodes to and then the DATA_TYPE row of the configuration, on the record it has begun; a side without a
frame runs no row (43_frame_assembler.md R171, 44_mode_decoders.md R190; entry 11). -/
def Obligations.FinalizeRunsTheDecodedRows : Prop :=
  ∀ (s : State) (ts : Stamp), suppressed s = false →
    ∃ s1 s2,
      (∀ m, frameOf .mosi s = some m →
        exec (decodeMosi m) (setOut (some (beginRecord ts s)) s) = .next s1) ∧
      (frameOf .mosi s = none → s1 = setOut (some (beginRecord ts s)) s) ∧
      (∀ f, frameOf .miso s = some f → exec (decodeDataType s.cfg.dataType) s1 = .next s2) ∧
      (frameOf .miso s = none → s2 = s1) ∧
      exec (.disable ts) s = .next (close (mapOut closeRecord s2))

/-- The steps that take no event. Construction: from any state, in one step, the state after reset with the
supplied configuration, the same parameters, and no record (but for `tStart`, which is unspecified there; 70_reset_and_hazards.md R270 to R272, D32; that it
is an input of the list is the model's, entry 12). With no input waiting a step only empties the output port:
the model's own choice (entry 6). -/
def Obligations.StepsWithoutAnEvent : Prop :=
  (∀ s : State, s.inbox = [] → step s = .next { s with out := none }) ∧
  ∀ (s : State) (c : DecoderConfig) (rest : List Input), s.inbox = .construct c :: rest →
    ∃ t, step s = .next t ∧ t.fsm = .waitEnable ∧ t.cntMosi = 0 ∧ t.cntMiso = 0 ∧
      (∀ i, t.bufMosi.read i = none) ∧ (∀ i, t.bufMiso.read i = none) ∧ t.out = none ∧
      t.cfg = c ∧ t.params = s.params ∧ t.inbox = rest

/-- The reset state: WAIT_ENABLE, both counters 0, no cell holding a value (10_state.md R41,
70_reset_and_hazards.md R271, D32); and it has the invariant of the state. -/
def Obligations.ResetIsIdleAndEmpty : Prop :=
  State.reset.fsm = .waitEnable ∧ State.reset.cntMosi = 0 ∧ State.reset.cntMiso = 0 ∧
    (∀ i, State.reset.bufMosi.read i = none ∧ State.reset.bufMiso.read i = none) ∧ State.reset.Inv

/-! ## Event rows -/

/-- ENABLE in WAIT_ENABLE opens a transaction (43_frame_assembler.md R161): ACCUMULATING, buffers clear, the
start timestamp latched, no record, and nothing else changed, for every `ts` and whatever bytes the event
carries. -/
def Obligations.EnableOpensATransaction : Prop :=
  (∀ ev : Event, ev.kind = 0 → decodeEvent .waitEnable ev = .enable ev.ts) ∧
  ∀ (s : State) (ts : Stamp),
    exec (.enable ts) s = .next
      { s with
        fsm := .accumulating, bufMosi := [], cntMosi := 0, bufMiso := [], cntMiso := 0, tStart := ts
        out := none }

/-- ENABLE in ACCUMULATING discards the bytes and starts again, without a record (43_frame_assembler.md
R167, which rests on D7). -/
def Obligations.EnableRestartsTheTransaction : Prop :=
  ∀ (s : State) (ts : Stamp),
    exec (.enableRestart ts) s = .next
      { s with
        fsm := .accumulating, bufMosi := [], cntMosi := 0, bufMiso := [], cntMiso := 0, tStart := ts
        out := none }

/-- RESULT and DISABLE in WAIT_ENABLE and the reserved kind change nothing and give no record
(43_frame_assembler.md R162, R163, R168, which rest on D6 and D2). -/
def Obligations.IgnoredEventsChangeNothing : Prop :=
  ∀ (s : State), ∀ i ∈ [Instr.resultIgnored, .disableIgnored, .reservedKind3],
    exec i s = .next { s with out := none }

/-- RESULT in ACCUMULATING when the early-finalize test does not fire (43_frame_assembler.md R165): the next
state has both bytes appended, is ACCUMULATING and has no record; only buffers and counters differ. -/
def Obligations.ResultOnlyAppends : Prop :=
  ∀ (s : State) (ts : Stamp) (a b : Option Byte),
    (s.cfg.earlyFinalize = false ∨
      ((appendBoth a b s).cntMosi ≠ 4 ∧ (appendBoth a b s).cntMiso ≠ 4)) →
    exec (.result ts a b) s = .next
      { s with
        fsm := .accumulating, bufMosi := (appendBoth a b s).bufMosi, cntMosi := (appendBoth a b s).cntMosi
        bufMiso := (appendBoth a b s).bufMiso, cntMiso := (appendBoth a b s).cntMiso, out := none }

/-- What the appends of a RESULT store (43_frame_assembler.md R164, with D5 from the fifth byte on): a
present byte of a side with counter below 4 goes to the cell at the counter and the counter advances; from 4
on the counter is 5 and nothing is stored; an absent byte changes nothing; and every other cell of either
buffer reads as before. -/
def Obligations.AppendStoresAtTheCounter : Prop :=
  ∀ (TS : Type) (s : State TS) (a b : Option Byte),
    (appendBoth a b s).cntMosi =
      (if a = none then s.cntMosi else if s.cntMosi.toNat < 4 then s.cntMosi + 1 else 5) ∧
    (appendBoth a b s).cntMiso =
      (if b = none then s.cntMiso else if s.cntMiso.toNat < 4 then s.cntMiso + 1 else 5) ∧
    (∀ i, (appendBoth a b s).bufMosi.read i =
      if a ≠ none ∧ s.cntMosi.toNat < 4 ∧ i = s.cntMosi.toNat then a else s.bufMosi.read i) ∧
    (∀ i, (appendBoth a b s).bufMiso.read i =
      if b ≠ none ∧ s.cntMiso.toNat < 4 ∧ i = s.cntMiso.toNat then b else s.bufMiso.read i)

/-- RESULT in ACCUMULATING when the early-finalize test fires (43_frame_assembler.md R165, D4, D9): the
record of the state after both appends, and accumulation re-opened at the same timestamp. -/
def Obligations.EarlyFinalizeEmitsAndReopens : Prop :=
  ∀ (s : State) (ts : Stamp) (a b : Option Byte), s.cfg.earlyFinalize = true →
    ((appendBoth a b s).cntMosi = 4 ∨ (appendBoth a b s).cntMiso = 4) →
    ∃ r, exec (.result ts a b) s = .next
        { s with
          fsm := .accumulating, bufMosi := [], cntMosi := 0, bufMiso := [], cntMiso := 0, tStart := ts
          out := some r } ∧
      r.tStart = s.tStart ∧ r.tEnd = ts ∧ r.mosiFrame = frameOf .mosi (appendBoth a b s) ∧
      r.misoFrame = frameOf .miso (appendBoth a b s) ∧ RecordFields s.cfg s.params r ∧ RecordErrors r

/-- An early finalize is the DISABLE of the same transaction at the same time, but for the state it leaves:
re-opened and not closed (43_frame_assembler.md R165 against R166; D9). -/
def Obligations.EarlyFinalizeAgreesWithDisable : Prop :=
  ∀ (s : State) (ts : Stamp) (a b : Option Byte), s.cfg.earlyFinalize = true →
    ((appendBoth a b s).cntMosi = 4 ∨ (appendBoth a b s).cntMiso = 4) →
    ∃ u, exec (.disable ts) (appendBoth a b s) = .next u ∧
      exec (.result ts a b) s = .next { u with fsm := .accumulating, tStart := ts }

/-- DISABLE in ACCUMULATING closes the transaction with the record of the table of 30_encoding.md R78,
whatever errors it contains; the buffers are cleared, and configuration, parameters, inputs and `tStart`
are as before (43_frame_assembler.md R166, R171; 60_exceptions.md R249; D10, D17, D18, D23 to D25). The one
case without a record is the next statement's. -/
def Obligations.DisableEmitsTheRecordOfTheTable : Prop :=
  ∀ (s : State) (ts : Stamp),
    ¬ (s.params.emptyFinalizeEmits = false ∧ s.cntMosi = 0 ∧ s.cntMiso = 0) →
    ∃ r, exec (.disable ts) s = .next
        { s with
          fsm := .waitEnable, bufMosi := [], cntMosi := 0, bufMiso := [], cntMiso := 0, out := some r } ∧
      r.tStart = s.tStart ∧ r.tEnd = ts ∧ r.mosiFrame = frameOf .mosi s ∧ r.misoFrame = frameOf .miso s ∧
      RecordFields s.cfg s.params r ∧ RecordErrors r

/-- With `EMPTY_FINALIZE_EMITS = false` the DISABLE of an empty transaction closes it without a record
(43_frame_assembler.md R166, D10). -/
def Obligations.EmptyDisableMayBeSilent : Prop :=
  ∀ (s : State) (ts : Stamp),
    s.params.emptyFinalizeEmits = false → s.cntMosi = 0 → s.cntMiso = 0 →
    exec (.disable ts) s = .next
      { s with fsm := .waitEnable, bufMosi := [], cntMosi := 0, bufMiso := [], cntMiso := 0, out := none }

/-! ## MOSI_FRAME rows -/

/-- Every WR row completes and does the MOSI side of the record being assembled, leaving the rest of the
state and of the record as it was (43_frame_assembler.md R173 to R177, 30_encoding.md R79; D17, D18, D20).
The values of the register annotations are stated separately; without fields there is none
(45_unit_conversion.md R230). -/
def Obligations.WriteRowsDecodeTheMosiSide : Prop :=
  ∀ (s : State) (r : Record) (a : Addr) (d : Half) (c k : BitVec 4), s.out = some r →
    ∀ row ∈ ([
        (.wrDeviceConfig d c k, 0x00), (.wrSensorConfig d c k, 0x01), (.wrSystemConfig d c k, 0x02),
        (.wrAlertConfig d c k, 0x03), (.wrXThrxConfig d c k, 0x04), (.wrYThrxConfig d c k, 0x05),
        (.wrZThrxConfig d c k, 0x06), (.wrTThrxConfig d c k, 0x07), (.wrConvStatus d c k, 0x08),
        (.wrXChResult d c k, 0x09), (.wrYChResult d c k, 0x0A), (.wrZChResult d c k, 0x0B),
        (.wrTempResult d c k, 0x0C), (.wrAfeStatus d c k, 0x0D), (.wrSysStatus d c k, 0x0E),
        (.wrTestConfig d c k, 0x0F), (.wrOscMonitor d c k, 0x10), (.wrMagGainConfig d c k, 0x11),
        (.wrMagOffsetConfig d c k, 0x12), (.wrAngleResult d c k, 0x13), (.wrMagnitudeResult d c k, 0x14),
        (.wrUnknown15 d c k, 0x15), (.wrUnknown16 a d c k, a), (.wrUnknown18 a d c k, a),
        (.wrUnknown20 a d c k, a), (.wrUnknown40 a d c k, a)] : List (Instr × Addr)),
      ∃ r', exec row.1 s = .next { s with out := some r' } ∧
        MosiSideDone s.cfg s.params .write row.2 d c k r r'

/-- Every RD row, likewise; its register value comes from the MISO frame, in the regular mode only
(30_encoding.md R79, 43_frame_assembler.md R175; D24, D25). -/
def Obligations.ReadRowsDecodeTheMosiSide : Prop :=
  ∀ (s : State) (r : Record) (a : Addr) (d : Half) (c k : BitVec 4), s.out = some r →
    ∀ row ∈ ([
        (.rdDeviceConfig d c k, 0x00), (.rdSensorConfig d c k, 0x01), (.rdSystemConfig d c k, 0x02),
        (.rdAlertConfig d c k, 0x03), (.rdXThrxConfig d c k, 0x04), (.rdYThrxConfig d c k, 0x05),
        (.rdZThrxConfig d c k, 0x06), (.rdTThrxConfig d c k, 0x07), (.rdConvStatus d c k, 0x08),
        (.rdXChResult d c k, 0x09), (.rdYChResult d c k, 0x0A), (.rdZChResult d c k, 0x0B),
        (.rdTempResult d c k, 0x0C), (.rdAfeStatus d c k, 0x0D), (.rdSysStatus d c k, 0x0E),
        (.rdTestConfig d c k, 0x0F), (.rdOscMonitor d c k, 0x10), (.rdMagGainConfig d c k, 0x11),
        (.rdMagOffsetConfig d c k, 0x12), (.rdAngleResult d c k, 0x13), (.rdMagnitudeResult d c k, 0x14),
        (.rdUnknown15 d c k, 0x15), (.rdUnknown16 a d c k, a), (.rdUnknown18 a d c k, a),
        (.rdUnknown20 a d c k, a), (.rdUnknown40 a d c k, a)] : List (Instr × Addr)),
      ∃ r', exec row.1 s = .next { s with out := some r' } ∧
        MosiSideDone s.cfg s.params .read row.2 d c k r r'

/-- A frame-level row with no record being assembled changes nothing. This is the model's own choice (entry
11): the block runs these rows only inside a finalize. -/
def Obligations.RowsWithoutARecordChangeNothing : Prop :=
  ∀ s : State, s.out = none →
    (∀ m : Frame, exec (decodeMosi m) s = .next s) ∧
    (∀ dt : DataType, exec (decodeDataType dt) s = .next s)

/-- The fields of the four configuration registers (42_register_map.md R125 to R128; the layouts are the
spec's general knowledge, D22 and G2). -/
def Obligations.ConfigRegisterFields : Prop :=
  RegisterUnpacksAs .wrDeviceConfig .rdDeviceConfig (fun v =>
      [(.RSVD_15, ubits v 15 1), (.CONV_AVG, ubits v 12 3), (.RSVD_11_10, ubits v 10 2),
       (.MAG_TEMPCO, ubits v 8 2), (.RSVD_7, ubits v 7 1), (.OPERATING_MODE, ubits v 4 3),
       (.T_CH_EN, ubits v 3 1), (.T_RATE, ubits v 2 1), (.T_HLT_EN, ubits v 1 1), (.RSVD_0, ubits v 0 1)]) ∧
  RegisterUnpacksAs .wrSensorConfig .rdSensorConfig (fun v =>
      [(.ANGLE_EN, ubits v 14 2), (.SLEEPTIME, ubits v 10 4), (.MAG_CH_EN, ubits v 6 4),
       (.Z_RANGE, ubits v 4 2), (.Y_RANGE, ubits v 2 2), (.X_RANGE, ubits v 0 2)]) ∧
  RegisterUnpacksAs .wrSystemConfig .rdSystemConfig (fun v =>
      [(.RSVD_15_14, ubits v 14 2), (.DIAG_SEL, ubits v 12 2), (.RSVD_11, ubits v 11 1),
       (.TRIGGER_MODE, ubits v 9 2), (.DATA_TYPE, ubits v 6 3), (.DIAG_EN, ubits v 5 1),
       (.RSVD_4_3, ubits v 3 2), (.Z_HLT_EN, ubits v 2 1), (.Y_HLT_EN, ubits v 1 1),
       (.X_HLT_EN, ubits v 0 1)]) ∧
  RegisterUnpacksAs .wrAlertConfig .rdAlertConfig (fun v =>
      [(.RSVD_15_14, ubits v 14 2), (.ALERT_LATCH, ubits v 13 1), (.ALERT_MODE, ubits v 12 1),
       (.STATUS_ALRT, ubits v 11 1), (.RSVD_10_9, ubits v 9 2), (.RSLT_ALRT, ubits v 8 1),
       (.RSVD_7_6, ubits v 6 2), (.THRX_COUNT, ubits v 4 2), (.T_THRX_ALRT, ubits v 3 1),
       (.Z_THRX_ALRT, ubits v 2 1), (.Y_THRX_ALRT, ubits v 1 1), (.X_THRX_ALRT, ubits v 0 1)])

/-- The fields of the four threshold registers, the magnetic ones signed (42_register_map.md R129 to R132;
D22, D29, G2). -/
def Obligations.ThresholdRegisterFields : Prop :=
  RegisterUnpacksAs .wrXThrxConfig .rdXThrxConfig (fun v =>
      [(.X_HI_THRESHOLD, sbits v 8 8), (.X_LO_THRESHOLD, sbits v 0 8)]) ∧
  RegisterUnpacksAs .wrYThrxConfig .rdYThrxConfig (fun v =>
      [(.Y_HI_THRESHOLD, sbits v 8 8), (.Y_LO_THRESHOLD, sbits v 0 8)]) ∧
  RegisterUnpacksAs .wrZThrxConfig .rdZThrxConfig (fun v =>
      [(.Z_HI_THRESHOLD, sbits v 8 8), (.Z_LO_THRESHOLD, sbits v 0 8)]) ∧
  RegisterUnpacksAs .wrTThrxConfig .rdTThrxConfig (fun v =>
      [(.T_HI_THRESHOLD, ubits v 8 8), (.T_LO_THRESHOLD, ubits v 0 8)])

/-- The fields of the three status registers (42_register_map.md R133, R138, R139; D22, G2). -/
def Obligations.StatusRegisterFields : Prop :=
  RegisterUnpacksAs .wrConvStatus .rdConvStatus (fun v =>
      [(.RSVD_15_14, ubits v 14 2), (.RDY, ubits v 13 1), (.A, ubits v 12 1), (.T, ubits v 11 1),
       (.Z, ubits v 10 1), (.Y, ubits v 9 1), (.X, ubits v 8 1), (.RSVD_7, ubits v 7 1),
       (.SET_COUNT, ubits v 4 3), (.RSVD_3_2, ubits v 2 2), (.ALRT_STATUS, ubits v 0 2)]) ∧
  RegisterUnpacksAs .wrAfeStatus .rdAfeStatus (fun v =>
      [(.CFG_RESET, ubits v 15 1), (.RSVD_14_13, ubits v 13 2), (.SENS_STAT, ubits v 12 1),
       (.TEMP_STAT, ubits v 11 1), (.ZHS_STAT, ubits v 10 1), (.YHS_STAT, ubits v 9 1),
       (.XHS_STAT, ubits v 8 1), (.RSVD_7_2, ubits v 2 6), (.TRIM_STAT, ubits v 1 1),
       (.LDO_STAT, ubits v 0 1)]) ∧
  RegisterUnpacksAs .wrSysStatus .rdSysStatus (fun v =>
      [(.ALRT_LVL, ubits v 15 1), (.ALRT_DRV, ubits v 14 1), (.SDO_DRV, ubits v 13 1),
       (.CRC_STAT, ubits v 12 1), (.FRAME_STAT, ubits v 11 1), (.OPERATING_STAT, ubits v 8 3),
       (.RSVD_7_6, ubits v 6 2), (.VCC_OV, ubits v 5 1), (.VCC_UV, ubits v 4 1),
       (.TEMP_THX, ubits v 3 1), (.ZCH_THX, ubits v 2 1), (.YCH_THX, ubits v 1 1),
       (.XCH_THX, ubits v 0 1)])

/-- The fields of the six result registers, the magnetic ones signed (42_register_map.md R134 to R137, R144,
R145; D22, G2). -/
def Obligations.ResultRegisterFields : Prop :=
  RegisterUnpacksAs .wrXChResult .rdXChResult (fun v =>
      [(.X_CH_RESULT, sbits v 0 16)]) ∧
  RegisterUnpacksAs .wrYChResult .rdYChResult (fun v =>
      [(.Y_CH_RESULT, sbits v 0 16)]) ∧
  RegisterUnpacksAs .wrZChResult .rdZChResult (fun v =>
      [(.Z_CH_RESULT, sbits v 0 16)]) ∧
  RegisterUnpacksAs .wrTempResult .rdTempResult (fun v =>
      [(.TEMP_RESULT, ubits v 0 16)]) ∧
  RegisterUnpacksAs .wrAngleResult .rdAngleResult (fun v =>
      [(.RSVD_15_13, ubits v 13 3), (.ANGLE_RESULT, ubits v 0 13)]) ∧
  RegisterUnpacksAs .wrMagnitudeResult .rdMagnitudeResult (fun v =>
      [(.RSVD_15_13, ubits v 13 3), (.MAGNITUDE_RESULT, ubits v 0 13)])

/-- The fields of the test, oscillator, gain and offset registers, the two 7-bit offsets signed
(42_register_map.md R140 to R143; D22, G2). -/
def Obligations.TestAndTrimRegisterFields : Prop :=
  RegisterUnpacksAs .wrTestConfig .rdTestConfig (fun v =>
      [(.RSVD_15_6, ubits v 6 10), (.VER, ubits v 4 2), (.RSVD_3, ubits v 3 1), (.CRC_DIS, ubits v 2 1),
       (.OSC_CNT_CTL, ubits v 0 2)]) ∧
  RegisterUnpacksAs .wrOscMonitor .rdOscMonitor (fun v =>
      [(.OSC_COUNT, ubits v 0 16)]) ∧
  RegisterUnpacksAs .wrMagGainConfig .rdMagGainConfig (fun v =>
      [(.GAIN_SELECTION, ubits v 14 2), (.RSVD_13_11, ubits v 11 3), (.GAIN_VALUE, ubits v 0 11)]) ∧
  RegisterUnpacksAs .wrMagOffsetConfig .rdMagOffsetConfig (fun v =>
      [(.OFFSET_SELECTION, ubits v 14 2), (.OFFSET_VALUE1, sbits v 7 7), (.OFFSET_VALUE2, sbits v 0 7)])

/-! ## DATA_TYPE rows -/

/-- The DEFAULT row completes: register data and, when enabled, the 8-bit status from the MISO frame, and no
channels; nothing else changes (44_mode_decoders.md R190, R191, R202). The clause without a MISO frame is the
model's own operation (entry 11) and not R190: a finalize then does not run the row, and leaves the six fields
none as R190 asks (EveryRecordSatisfiesTheTable); the row taken on its own changes nothing. -/
def Obligations.DefaultRowReportsTheRegisterValue : Prop :=
  ∀ (s : State) (r : Record), s.out = some r →
    (r.misoFrame = none → exec .misoDefault s = .next s) ∧
    (∀ f, r.misoFrame = some f →
      ∃ r', exec .misoDefault s = .next { s with out := some r' } ∧
        r'.misoData = some (f.extractLsb' 8 16) ∧
        r'.stat8 = (if s.cfg.stat8En then some (f.extractLsb' 24 8) else none) ∧
        r'.ch1Raw = none ∧ r'.ch1Val = none ∧ r'.ch2Raw = none ∧ r'.ch2Val = none ∧
        r'.ch1Unit = none ∧ r'.ch2Unit = none ∧ ModeKeeps r r')

/-- The seven channel-pair rows complete: two 12-bit lanes of the MISO frame, each extended as its mode says,
no register data and no 8-bit status; nothing else changes (44_mode_decoders.md R190, R192 to R200; D12, D13,
D27). The clause without a MISO frame is the model's own operation (entry 11) and not R190: a finalize then
does not run the row, and leaves the six fields none as R190 asks (EveryRecordSatisfiesTheTable); the row taken
on its own changes nothing. -/
def Obligations.PairRowsReportTwoChannels : Prop :=
  ∀ (s : State) (r : Record), s.out = some r →
    ∀ row ∈ [(Instr.misoXy, true, true), (.misoXz, true, true), (.misoZy, true, true),
        (.misoXt, true, false), (.misoYt, true, false), (.misoZt, true, false), (.misoAm, false, false)],
      (r.misoFrame = none → exec row.1 s = .next s) ∧
      (∀ f, r.misoFrame = some f →
        ∃ r', exec row.1 s = .next { s with out := some r' } ∧ LanesDone row.2.1 row.2.2 f r' ∧
          ModeKeeps r r')

/-- The annotations of the two channels, by mode: millitesla of the channel's axis, degrees Celsius, degrees,
or none for a magnitude (45_unit_conversion.md R222, R226, R229, R230; D13, D15, D28, D37). -/
def Obligations.PairRowsAnnotateTheirChannels : Prop :=
  let mag (b : BrRange) (c : BitVec 12) : Option Q :=
    (rangeMilliTesla b).map fun br => (c.toInt : Q) * br / 2048
  let temp (cfg : DecoderConfig) (c : BitVec 12) : Option Q :=
    if cfg.convEn then some (25 + (16 * (c.toNat : Q) - 17522) / 60) else none
  let angle (cfg : DecoderConfig) (c : BitVec 12) : Option Q :=
    if cfg.convEn then some ((c.toNat : Q) / 8) else none
  ∀ (s : State) (r : Record) (f : Frame), s.out = some r → r.misoFrame = some f →
    let c1 : BitVec 12 := f.extractLsb' 16 8 ++ f.extractLsb' 8 4
    let c2 : BitVec 12 := f.extractLsb' 24 8 ++ f.extractLsb' 12 4
    ∀ row ∈ [(Instr.misoXy, mag s.cfg.brX c1, mag s.cfg.brY c2),
        (.misoXz, mag s.cfg.brX c1, mag s.cfg.brZ c2), (.misoZy, mag s.cfg.brZ c1, mag s.cfg.brY c2),
        (.misoXt, mag s.cfg.brX c1, temp s.cfg c2), (.misoYt, mag s.cfg.brY c1, temp s.cfg c2),
        (.misoZt, mag s.cfg.brZ c1, temp s.cfg c2), (.misoAm, angle s.cfg c1, none)],
      ∃ r', exec row.1 s = .next { s with out := some r' } ∧ r'.ch1Unit = row.2.1 ∧
        r'.ch2Unit = row.2.2

/-! ## Register annotations -/

/-- The annotations of the five result registers (45_unit_conversion.md R221, R225, R228, R230; D15, D37):
the field in millitesla, the temperature, and the angle, which is the low 13 bits of the payload divided
by 16. No other register but the thresholds has an annotation (42_register_map.md R146). -/
def Obligations.ResultAndPlainRegisterAnnotations : Prop :=
  RegisterAnnotatedAs .wrXChResult .rdXChResult (fun c _ v =>
    { noUnits with reg := (rangeMilliTesla c.brX).map fun br => (v.toInt : Q) * br / 32768 }) ∧
  RegisterAnnotatedAs .wrYChResult .rdYChResult (fun c _ v =>
    { noUnits with reg := (rangeMilliTesla c.brY).map fun br => (v.toInt : Q) * br / 32768 }) ∧
  RegisterAnnotatedAs .wrZChResult .rdZChResult (fun c _ v =>
    { noUnits with reg := (rangeMilliTesla c.brZ).map fun br => (v.toInt : Q) * br / 32768 }) ∧
  RegisterAnnotatedAs .wrTempResult .rdTempResult (fun c _ v =>
    { noUnits with reg := if c.convEn then some (25 + ((v.toNat : Q) - 17522) / 60) else none }) ∧
  RegisterAnnotatedAs .wrAngleResult .rdAngleResult (fun c _ v =>
    { noUnits with reg := if c.convEn then some (((v.toNat % 8192 : Nat) : Q) / 16) else none }) ∧
  RegisterAnnotatedAs .wrDeviceConfig .rdDeviceConfig (fun _ _ _ => noUnits) ∧
  RegisterAnnotatedAs .wrSensorConfig .rdSensorConfig (fun _ _ _ => noUnits) ∧
  RegisterAnnotatedAs .wrSystemConfig .rdSystemConfig (fun _ _ _ => noUnits) ∧
  RegisterAnnotatedAs .wrAlertConfig .rdAlertConfig (fun _ _ _ => noUnits) ∧
  RegisterAnnotatedAs .wrConvStatus .rdConvStatus (fun _ _ _ => noUnits) ∧
  RegisterAnnotatedAs .wrAfeStatus .rdAfeStatus (fun _ _ _ => noUnits) ∧
  RegisterAnnotatedAs .wrSysStatus .rdSysStatus (fun _ _ _ => noUnits) ∧
  RegisterAnnotatedAs .wrTestConfig .rdTestConfig (fun _ _ _ => noUnits) ∧
  RegisterAnnotatedAs .wrOscMonitor .rdOscMonitor (fun _ _ _ => noUnits) ∧
  RegisterAnnotatedAs .wrMagGainConfig .rdMagGainConfig (fun _ _ _ => noUnits) ∧
  RegisterAnnotatedAs .wrMagOffsetConfig .rdMagOffsetConfig (fun _ _ _ => noUnits) ∧
  RegisterAnnotatedAs .wrMagnitudeResult .rdMagnitudeResult (fun _ _ _ => noUnits)

/-- The annotations of the threshold registers (45_unit_conversion.md R223, R227, R230; D29, D30, D36, D37):
each magnetic axis uses its own range, or all the X range under `THRESH_RANGE_SHARED_X`. -/
def Obligations.ThresholdRegisterAnnotations : Prop :=
  let mag (b : BrRange) (v : Half) : RegUnits :=
    { reg := none
      thrHi := (rangeMilliTesla b).map fun br => ((v.extractLsb' 8 8).toInt : Q) * br / 128
      thrLo := (rangeMilliTesla b).map fun br => ((v.extractLsb' 0 8).toInt : Q) * br / 128 }
  RegisterAnnotatedAs .wrXThrxConfig .rdXThrxConfig (fun c _ v => mag c.brX v) ∧
  RegisterAnnotatedAs .wrYThrxConfig .rdYThrxConfig (fun c p v =>
    mag (if p.threshRangeSharedX then c.brX else c.brY) v) ∧
  RegisterAnnotatedAs .wrZThrxConfig .rdZThrxConfig (fun c p v =>
    mag (if p.threshRangeSharedX then c.brX else c.brZ) v) ∧
  RegisterAnnotatedAs .wrTThrxConfig .rdTThrxConfig (fun c _ v =>
    { reg := none
      thrHi := if c.convEn then
          some ((((v.extractLsb' 8 8).toNat : Q) - 103) * (4267 / 1000) + 172) else none
      thrLo := if c.convEn then
          some ((((v.extractLsb' 0 8).toNat : Q) - 50) * (4267 / 1000) - 53) else none })

/-- The formulas of the temperature and the two angles (45_unit_conversion.md R221, R228, R229): no value
without `CONV_EN`, and else the exact quotient; bits 15:13 of the 16-bit angle have no influence. -/
def Obligations.TemperatureAndAngleFormulas : Prop :=
  ∀ (c : DecoderConfig) (v : Half) (w : BitVec 12),
    temp16 c v = (if c.convEn then some (25 + ((v.toNat : Q) - 17522) / 60) else none) ∧
    angle16 c v = (if c.convEn then
      some ((((v.toNat / 16) % 512 : Nat) : Q) + ((v.toNat % 16 : Nat) : Q) / 16) else none) ∧
    angle16 c (v &&& 0x1FFF#16) = angle16 c v ∧
    angle12 c w = (if c.convEn then
      some ((((w.toNat / 8) % 512 : Nat) : Q) + ((w.toNat % 8 : Nat) : Q) / 8) else none)

/-- The seven ranges in millitesla: none when not selected, 25, 50 and 100 for one sensor variant, 75, 150 and
300 for another (the values of 45_unit_conversion.md R224; their codes, D15, stand in
ConfigurationWordRoundTrips). The magnetic field of a 16-bit result: the formula, no value exactly without a
range, and the field lies in the configured range (R225). -/
def Obligations.MagneticFieldStaysInItsRange : Prop :=
  [BrRange.notSelected, .mT25, .mT50, .mT100, .mT75, .mT150, .mT300].map brMT =
    [none, some 25, some 50, some 100, some 75, some 150, some 300] ∧
  ∀ (raw : Int) (b : BrRange),
    (mag16 raw b = (rangeMilliTesla b).map fun br => (raw : Q) * 2 * br / 65536) ∧
    (mag16 raw b = none ↔ b = .notSelected) ∧
    (∀ br q, -32768 ≤ raw → raw ≤ 32767 → rangeMilliTesla b = some br → mag16 raw b = some q →
      -br ≤ q ∧ q ≤ br * 32767 / 32768)

/-! ## Properties of every record -/

/-- Every record that any step of any state produces satisfies the record table and the error vector
(30_encoding.md R78, 60_exceptions.md R245; D10, D17 to D25), and carries no annotation without the value it
annotates (45_unit_conversion.md R230). -/
def Obligations.EveryRecordSatisfiesTheTable : Prop :=
  ∀ (s t : State) (r : Record), step s = .next t → t.out = some r →
    RecordFields s.cfg s.params r ∧ RecordErrors r

/-- In every record that any step produces, direction, address and MOSI data come from the MOSI frame alone,
and are absent without it (43_frame_assembler.md R173, R174). -/
def Obligations.DirectionAndAddressComeFromMosi : Prop :=
  ∀ (s t : State) (r : Record), step s = .next t → t.out = some r →
    (r.mosiFrame = none → r.dir = none ∧ r.addr = none ∧ r.regKnown = none ∧ r.mosiData = none) ∧
    (∀ m, r.mosiFrame = some m →
      r.dir = some (if m.getLsbD 31 then .read else .write) ∧ r.addr = some (m.extractLsb' 24 7) ∧
      r.regKnown = some (decide ((m.extractLsb' 24 7).toNat ≤ 0x14)) ∧
      r.mosiData = some (m.extractLsb' 8 16))

/-- An address outside the table (60_exceptions.md R242, 42_register_map.md R121): reported by `reg_known`
and bit 4 of the error vector, no bitfield decode and no register annotation, for reads and writes; every
other field is as the record table says. -/
def Obligations.UnknownAddressIsReportedNotDecoded : Prop :=
  ∀ (s : State) (ts : Stamp) (m : Frame), frameOf .mosi s = some m → 0x14 < (m.extractLsb' 24 7).toNat →
    ∃ t r, exec (.disable ts) s = .next t ∧ t.out = some r ∧ r.regKnown = some false ∧
      r.err.getLsbD 4 = true ∧ r.addr = some (m.extractLsb' 24 7) ∧ r.fields = none ∧
      r.regUnit = none ∧ r.thrHiUnit = none ∧ r.thrLoUnit = none ∧ RecordFields s.cfg s.params r

/-- A length error (60_exceptions.md R240): a side whose counter is not 4 is marked, bit 0 or 1 of the error
vector is set, and every field derived from that side's frame is absent; the other side's frame is there if
its counter is 4. -/
def Obligations.LengthErrorMarksItsSideOnly : Prop :=
  ∀ (s t : State) (ts : Stamp) (r : Record), exec (.disable ts) s = .next t → t.out = some r →
    suppressed s = false →
    (s.cntMosi ≠ 4 → r.lenErrMosi = true ∧ r.err.getLsbD 0 = true ∧ r.mosiFrame = none ∧
      r.mosiCrc = none ∧ r.dir = none ∧ r.addr = none ∧ r.regKnown = none ∧ r.mosiData = none ∧
      r.regValue = none ∧ r.fields = none ∧ r.cmd = none ∧ r.regUnit = none ∧ r.thrHiUnit = none ∧
      r.thrLoUnit = none ∧ (s.params.errorBitSource = .mosi → r.errBit = none)) ∧
    (s.cntMiso ≠ 4 → r.lenErrMiso = true ∧ r.err.getLsbD 1 = true ∧ r.misoFrame = none ∧
      r.misoCrc = none ∧ r.misoData = none ∧ r.stat = none ∧ r.stat8 = none ∧ r.ch1Raw = none ∧
      r.ch1Val = none ∧ r.ch2Raw = none ∧ r.ch2Val = none ∧ r.ch1Unit = none ∧ r.ch2Unit = none ∧
      (s.params.errorBitSource = .miso → r.errBit = none)) ∧
    (s.cntMosi = 4 → r.lenErrMosi = false ∧ r.err.getLsbD 0 = false ∧ r.mosiFrame.isSome = true) ∧
    (s.cntMiso = 4 → r.lenErrMiso = false ∧ r.err.getLsbD 1 = false ∧ r.misoFrame.isSome = true)

/-- With both sides in length error nothing is decoded: every optional field is absent and the error vector
is 3; the timestamps are still there (43_frame_assembler.md R180, D24). -/
def Obligations.TwoLengthErrorsLeaveAnEmptyRecord : Prop :=
  ∀ (s : State) (ts : Stamp), suppressed s = false → s.cntMosi ≠ 4 → s.cntMiso ≠ 4 →
    ∃ t, exec (.disable ts) s = .next t ∧ t.out = some
      { tStart := s.tStart, tEnd := ts, lenErrMosi := true, lenErrMiso := true, mosiFrame := none
        misoFrame := none, mosiCrc := none, misoCrc := none, dir := none, addr := none, regKnown := none
        mosiData := none, misoData := none, regValue := none, fields := none, ch1Raw := none
        ch2Raw := none, ch1Val := none, ch2Val := none, cmd := none, stat := none, errBit := none
        stat8 := none, err := 3, regUnit := none, thrHiUnit := none, thrLoUnit := none, ch1Unit := none
        ch2Unit := none }

/-- The MISO side of the record does not depend on the MOSI side (60_exceptions.md R248,
43_frame_assembler.md R179). -/
def Obligations.MisoSideIsIndependentOfMosi : Prop :=
  ∀ (s s' t t' : State) (ts ts' : Stamp) (r r' : Record),
    s.cfg = s'.cfg → s.params = s'.params → s.bufMiso = s'.bufMiso → s.cntMiso = s'.cntMiso →
    suppressed s = false → suppressed s' = false →
    exec (.disable ts) s = .next t → exec (.disable ts') s' = .next t' → t.out = some r → t'.out = some r' →
    r.lenErrMiso = r'.lenErrMiso ∧ r.misoFrame = r'.misoFrame ∧ r.misoCrc = r'.misoCrc ∧
      r.misoData = r'.misoData ∧ r.stat = r'.stat ∧ r.stat8 = r'.stat8 ∧ r.ch1Raw = r'.ch1Raw ∧
      r.ch1Val = r'.ch1Val ∧ r.ch2Raw = r'.ch2Raw ∧ r.ch2Val = r'.ch2Val ∧ r.ch1Unit = r'.ch1Unit ∧
      r.ch2Unit = r'.ch2Unit

/-- The MOSI side of the record does not depend on the MISO side, and neither do the register value, the fields
and the register annotations of a write; those of a read need both sides and the regular mode: with a short or
long MISO side, or in a special mode, a read has no register value, no fields and no register annotation
(60_exceptions.md R248, 43_frame_assembler.md R175, R180, 45_unit_conversion.md R230). -/
def Obligations.MosiSideIsIndependentOfMiso : Prop :=
  ∀ (s s' t t' : State) (ts ts' : Stamp) (r r' : Record),
    s.cfg = s'.cfg → s.params = s'.params → s.bufMosi = s'.bufMosi → s.cntMosi = s'.cntMosi →
    suppressed s = false → suppressed s' = false →
    exec (.disable ts) s = .next t → exec (.disable ts') s' = .next t' → t.out = some r → t'.out = some r' →
    (r.lenErrMosi = r'.lenErrMosi ∧ r.mosiFrame = r'.mosiFrame ∧ r.mosiCrc = r'.mosiCrc ∧
      r.dir = r'.dir ∧ r.addr = r'.addr ∧ r.regKnown = r'.regKnown ∧ r.mosiData = r'.mosiData ∧
      r.cmd = r'.cmd) ∧
    (r.dir = some .write → r.regValue = r'.regValue ∧ r.fields = r'.fields ∧ r.regUnit = r'.regUnit ∧
      r.thrHiUnit = r'.thrHiUnit ∧ r.thrLoUnit = r'.thrLoUnit) ∧
    (r.dir = some .read → s.cntMiso ≠ 4 ∨ s.cfg.dataType ≠ .default →
      r.regValue = none ∧ r.fields = none ∧ r.regUnit = none ∧ r.thrHiUnit = none ∧ r.thrLoUnit = none)

/-- The record that finalize assembles depends only on the configuration, the register table and the other
parameters, the two counters and the bytes below them, but for the timestamps it passes through
(43_frame_assembler.md R181). -/
def Obligations.RecordDependsOnlyOnItsOwnBytes : Prop :=
  ∀ (TS : Type) (s s' : State TS) (ts ts' : TS),
    s.cfg = s'.cfg → s.params = s'.params → s.cntMosi = s'.cntMosi → s.cntMiso = s'.cntMiso →
    (∀ i, i < s.cntMosi.toNat → s.bufMosi.read i = s'.bufMosi.read i) →
    (∀ i, i < s.cntMiso.toNat → s.bufMiso.read i = s'.bufMiso.read i) →
    ∃ t t' r r', finalize ts s = .next t ∧ finalize ts' s' = .next t' ∧ t.out = some r ∧
      t'.out = some r' ∧ r.withoutTimes = r'.withoutTimes

/-- After an ENABLE nothing of the past is left: two states with the same configuration, parameters and
inputs take the same step, whatever was accumulated, reported or open before (20_memory.md R64,
60_exceptions.md R250; R167 rests on D7). -/
def Obligations.EnableForgetsThePast : Prop :=
  ∀ (s s' : State) (ev : Event) (rest : List Input), ev.kind = 0 →
    s.inbox = .event ev :: rest → s'.inbox = .event ev :: rest → s.cfg = s'.cfg → s.params = s'.params →
    step s = step s'

/-- A decoder that reports no CRC and one that does give the same record in all else
(10_state.md R34, 60_exceptions.md R241; D17). -/
def Obligations.CrcCheckChangesNoOtherField : Prop :=
  ∀ (s t t' : State) (ts : Stamp) (on : Bool), exec (.disable ts) s = .next t →
    exec (.disable ts) { s with cfg := { s.cfg with crcCheckEn := on } } = .next t' →
    t.out.map Record.withoutCrc = t'.out.map Record.withoutCrc

/-- The ranges and the conversion enable influence only the annotations (45_unit_conversion.md R231,
10_state.md R32, R33; D37). -/
def Obligations.AnnotationsFeedNothingBack : Prop :=
  ∀ (s t t' : State) (ts : Stamp) (x y z : BrRange) (on : Bool), exec (.disable ts) s = .next t →
    exec (.disable ts) { s with cfg := { s.cfg with brX := x, brY := y, brZ := z, convEn := on } } = .next t' →
    t.out.map Record.withoutUnits = t'.out.map Record.withoutUnits

/-! ## Invariants -/

/-- Every step keeps the invariant of the state: counters 0 to 5, exactly the cells below a counter holding a
value, nothing accumulated outside a transaction, and no side resting at four bytes or more under the
early-finalize policy (10_state.md R22 to R24, 20_memory.md R57, 43_frame_assembler.md R165; D5, D6). -/
def Obligations.EveryStepKeepsTheInvariant : Prop :=
  ∀ s t : State, s.Inv → step s = .next t → t.Inv

/-- No event changes the configuration or the parameters, the register table among them, not even a decoded
write to a configuration register of the sensor (20_memory.md R66, 10_state.md R26). -/
def Obligations.ConfigurationAndTableNeverChange : Prop :=
  ∀ (s t : State) (ev : Event) (rest : List Input), s.inbox = .event ev :: rest → step s = .next t →
    t.cfg = s.cfg ∧ t.params = s.params

/-! ## Frame assembly -/

/-- Frame assembly (20_memory.md R54, 43_frame_assembler.md R172): a side has a frame exactly when its counter
is 4; the frame is big-endian, the first byte being bits 31:24, on both sides; and nothing but the buffer and
the counter of that side has an influence, neither the other side nor the configuration. -/
def Obligations.FramesAreBigEndian : Prop :=
  ∀ (TS : Type) (s : State TS) (side : Side),
    ((frameOf side s).isSome = true ↔ s.count side = 4) ∧
    (∀ b0 b1 b2 b3 : Byte, s.count side = 4 →
      (s.buffer side).read 0 = some b0 → (s.buffer side).read 1 = some b1 →
      (s.buffer side).read 2 = some b2 → (s.buffer side).read 3 = some b3 →
      ∃ f, frameOf side s = some f ∧
        f.toNat = b0.toNat * 2 ^ 24 + b1.toNat * 2 ^ 16 + b2.toNat * 2 ^ 8 + b3.toNat ∧
        f.extractLsb' 24 8 = b0 ∧ f.extractLsb' 16 8 = b1 ∧ f.extractLsb' 8 8 = b2 ∧
        f.extractLsb' 0 8 = b3) ∧
    (∀ s' : State TS, s.buffer side = s'.buffer side → s.count side = s'.count side →
      frameOf side s = frameOf side s')

/-- A whole transaction: ENABLE, four byte pairs, DISABLE, from any state (30_encoding.md R85, D35;
43_frame_assembler.md R161, R165, R166). With the early-finalize policy off the DISABLE delivers the record of
exactly those two frames. With the policy on the fourth RESULT delivers it, at its own timestamp, and re-opens;
the DISABLE then meets an empty transaction: a record with both length errors, or none under
`EMPTY_FINALIZE_EMITS = false` (D9, D10). Either way the block is idle after it. -/
def Obligations.TransactionDeliversItsFrames : Prop :=
  ∀ (s : State) (t0 t1 : Stamp) (m f : Frame) (rest : List Input), s.inbox = xfer t0 t1 m f ++ rest →
    (s.cfg.earlyFinalize = false →
      ∃ t r, Host.Core.run Sys2Proof.core 6 s = .next t ∧ t.out = some r ∧ r.mosiFrame = some m ∧
        r.misoFrame = some f ∧ r.tStart = t0 ∧ r.tEnd = t1 ∧ t.fsm = .waitEnable ∧ t.inbox = rest) ∧
    (s.cfg.earlyFinalize = true →
      ∃ u r t, Host.Core.run Sys2Proof.core 5 s = .next u ∧ u.out = some r ∧ r.mosiFrame = some m ∧
        r.misoFrame = some f ∧ r.tStart = t0 ∧ r.tEnd = t0 ∧ u.fsm = .accumulating ∧
        Host.Core.run Sys2Proof.core 6 s = .next t ∧ t.fsm = .waitEnable ∧ t.inbox = rest ∧
        (s.params.emptyFinalizeEmits = true →
          ∃ e, t.out = some e ∧ e.lenErrMosi = true ∧ e.lenErrMiso = true ∧ e.mosiFrame = none ∧
            e.misoFrame = none ∧ e.tStart = t0 ∧ e.tEnd = t1) ∧
        (s.params.emptyFinalizeEmits = false → t.out = none))

/-! ## The CRC -/

/-- The CRC is the recurrence of 41_crc4.md R111: bits 31 to 0 of the frame with its low four bits zeroed,
from the register value 0xF; the low four bits have no influence; three values. -/
def Obligations.CrcIsTheRecurrence : Prop :=
  (∀ f : Frame,
    crc4Calc f = (List.range 32).reverse.foldl
      (fun (r : BitVec 4) i =>
        let inv := (f &&& 0xFFFFFFF0#32).getLsbD i ^^ r.getLsbD 3
        BitVec.ofBool (r.getLsbD 2) ++ BitVec.ofBool (r.getLsbD 1) ++
          BitVec.ofBool (r.getLsbD 0 ^^ inv) ++ BitVec.ofBool inv) 0xF ∧
    crc4Calc f = crc4Calc (f &&& 0xFFFFFFF0#32)) ∧
  crc4Calc 0x00000000 = 0x9 ∧ crc4Calc 0xFFFFFFF0 = 0xE ∧ crc4Calc 0x0F000407 = 0x7

/-- The CRC check is OK exactly on the frame's own CRC; a frame made from 28 bits passes; and for given upper
28 bits exactly one low nibble passes (41_crc4.md R112, R114, in part the spec's own inference). -/
def Obligations.CrcCheckAcceptsExactlyOneNibble : Prop :=
  (∀ f : Frame, (crcCheck f).status = .ok ↔ f.extractLsb' 0 4 = crc4Calc f) ∧
  (∀ p : BitVec 28, (crcCheck (mkFrame p)).status = .ok) ∧
  (∀ p : BitVec 28, ∃! k : BitVec 4, (crcCheck (p ++ k)).status = .ok)

/-- The CRC is affine over GF(2) (41_crc4.md R113 c, the spec's own inference). -/
def Obligations.CrcIsAffine : Prop :=
  ∀ a b : Frame, crc4Calc (a ^^^ b) = crc4Calc a ^^^ crc4Calc b ^^^ crc4Calc 0

/-- The CRC is the remainder of a polynomial division by `x^4 + x + 1` (41_crc4.md R113 b, the spec's own
inference). -/
def Obligations.CrcIsAPolynomialRemainder : Prop :=
  ∀ f : Frame, crc4Calc f = polyRemainder (f &&& 0xFFFFFFF0#32)

/-! ## Utilities and the register table -/

/-- `masked_value` with a mask of `w` ones is the slice of `w` bits; a position beyond the value gives 0
(40_bit_utilities.md R100). -/
def Obligations.MaskedValueIsTheSlice : Prop :=
  (∀ v lo w : Nat, maskedValue v lo (2 ^ w - 1) = v / 2 ^ lo % 2 ^ w) ∧
  (∀ v position mask : Nat, maskedValue v position mask = (v >>> position) &&& mask) ∧
  (∀ v position mask : Nat, v < 2 ^ position → maskedValue v position mask = 0) ∧
  (∀ v position : Nat, maskedValue v position 0 = 0)

/-- `sign_extend`: no value exactly out of contract, the round trip, and the range of the result
(40_bit_utilities.md R103, 60_exceptions.md R244; excess bits ignored: D26). -/
def Obligations.SignExtendRoundTrips : Prop :=
  (∀ (v : Nat) (w n : Int), signExtend v w n = none ↔ w ≤ 0 ∨ n ≤ 0 ∨ n < w) ∧
  (∀ (w : Nat) (x : Int), 1 ≤ w → w ≤ 16 → -(2 ^ (w - 1)) ≤ x → x < 2 ^ (w - 1) →
    signExtend (x % 2 ^ w).toNat w 16 = some x) ∧
  (∀ (v w : Nat) (n x : Int), signExtend v w n = some x →
    -(2 ^ (w - 1)) ≤ x ∧ x < 2 ^ (w - 1) ∧ signExtend (v % 2 ^ w) w n = some x)

/-- For any table, the lookup knows exactly the addresses up to `0x14`; a register unpacks into one entry per
descriptor field, in order: the slice, in two's complement when the field is signed; and a record's `fields`
are that list exactly when the payload is present and the address is known (42_register_map.md R121, R122,
43_frame_assembler.md R176). -/
def Obligations.UnpackSlicesEveryField : Prop :=
  (∀ (m : RegMap) (a : Addr),
    (∀ h : a.toNat ≤ 0x14, lookup m a = some (m[a.toNat]'(by omega))) ∧
    (0x14 < a.toNat → lookup m a = none)) ∧
  (∀ (d : RegDesc) (v : Half),
    unpack d v = d.fields.map fun f =>
      (f.fname, if f.signed then (v.extractLsb' f.lsb f.width).toInt
        else ((v.extractLsb' f.lsb f.width).toNat : Int))) ∧
  (∀ (s t : State) (r : Record), step s = .next t → t.out = some r →
    ∀ fs, r.fields = some fs ↔
      ∃ a v d, r.addr = some a ∧ r.regValue = some v ∧ lookup s.params.regmap a = some d ∧
        fs = unpack d v)

/-- The default table: each entry stands at its own address with the name of 42_register_map.md R124, and its
fields cover bits 15:0 exactly once, from the most significant down (R120; the contents are the spec's
general knowledge, D22). -/
def Obligations.DefaultTableCoversEveryBitOnce : Prop :=
  defaultRegmap.toList.map (fun d => d.addr.toNat) = List.range 21 ∧
  defaultRegmap.toList.map RegDesc.name =
      [.DEVICE_CONFIG, .SENSOR_CONFIG, .SYSTEM_CONFIG, .ALERT_CONFIG, .X_THRX_CONFIG, .Y_THRX_CONFIG,
       .Z_THRX_CONFIG, .T_THRX_CONFIG, .CONV_STATUS, .X_CH_RESULT, .Y_CH_RESULT, .Z_CH_RESULT,
       .TEMP_RESULT, .AFE_STATUS, .SYS_STATUS, .TEST_CONFIG, .OSC_MONITOR, .MAG_GAIN_CONFIG,
       .MAG_OFFSET_CONFIG, .ANGLE_RESULT, .MAGNITUDE_RESULT] ∧
  ∀ d ∈ defaultRegmap.toList,
    (d.fields.flatMap fun f => (List.range f.width).map fun i => f.lsb + f.width - 1 - i) =
      (List.range 16).reverse

/-- The eight flags of the 8-bit status group are bits 31 to 24 of the MISO frame in the listing order
(44_mode_decoders.md R202; the assignment is the spec's D19, the order of the last four G6). -/
def Obligations.StatusByteFlagsInListingOrder : Prop :=
  ∀ f : Frame, stat8Flags (f.extractLsb' 24 8) =
    { previousCrc := f.getLsbD 31, configReset := f.getLsbD 30, alertHigh := f.getLsbD 29
      alertLow := f.getLsbD 28, readyX := f.getLsbD 27, readyY := f.getLsbD 26, readyZ := f.getLsbD 25
      readyT := f.getLsbD 24 }

/-! ## Timestamps -/

/-- The type `TS` of timestamps is a parameter (00_scope.md R6, D4): the step over any type of timestamps takes
a state with its timestamps renamed, by any function into any other type, to the next state renamed by it; so
no step computes on a timestamp, compares one or alters one (10_state.md R25). At the model's own type `Stamp`
(entry 3) that step is `step`, and its effect of an instruction is `exec`. -/
def Obligations.TimestampsAreOpaque : Prop :=
  (∀ s : State, stepOver s = step s) ∧ (∀ (i : Instr) (s : State), execOver i s = exec i s) ∧
  ∀ (TS US : Type) (f : TS → US) (s : State TS),
    ∃ t, stepOver s = .next t ∧ stepOver (s.relabel f) = .next (t.relabel f)
end

