-- ==== Sys2Proof/Laws/Memory.lean ====
section
/-! SUPPORT. Laws/Memory.lean: reading after writing a buffer, and the canonical form. -/

namespace Sys2Proof.Machine

variable {TS : Type}

/-! ## Reading after writing -/

theorem Memory.read_write_same (m : Memory) (i : Nat) (b : Byte) : (m.write i b).read i = some b := by
  induction m with
  | nil => simp [Memory.write, Memory.read]
  | cons c m ih =>
    obtain ⟨a, x⟩ := c
    unfold Memory.write
    split
    · simp [Memory.read]
    · split
      · simp [Memory.read]
      · next h1 h2 => simp [Memory.read, Ne.symm h2, ih]

theorem Memory.read_write_other (m : Memory) (i j : Nat) (b : Byte) (h : j ≠ i) :
    (m.write i b).read j = m.read j := by
  induction m with
  | nil => simp [Memory.write, Memory.read, Ne.symm h]
  | cons c m ih =>
    obtain ⟨a, x⟩ := c
    unfold Memory.write
    split
    · simp [Memory.read, Ne.symm h]
    · split
      · next h1 h2 => subst h2; simp [Memory.read, Ne.symm h]
      · simp [Memory.read, ih]

/-! ## The canonical form is kept -/

theorem Memory.wfFrom_mono {lo lo' : Nat} (h : lo' ≤ lo) : ∀ {m : Memory}, Memory.wfFrom lo m → Memory.wfFrom lo' m
  | [], _ => rfl
  | (a, _) :: _, hm => by
    simp only [Memory.wfFrom, Bool.and_eq_true, decide_eq_true_eq] at hm ⊢
    exact ⟨⟨by omega, hm.1.2⟩, hm.2⟩

theorem Memory.wfFrom_write {lo i : Nat} {b : Byte} (hlo : lo ≤ i) (hi : i < 4) :
    ∀ {m : Memory}, Memory.wfFrom lo m → Memory.wfFrom lo (m.write i b)
  | [], _ => by simp [Memory.write, Memory.wfFrom, hlo, hi]
  | (a, x) :: m, hm => by
    simp only [Memory.wfFrom, Bool.and_eq_true, decide_eq_true_eq] at hm
    unfold Memory.write
    split
    · next h =>
      simp only [Memory.wfFrom, Bool.and_eq_true, decide_eq_true_eq]
      exact ⟨⟨hlo, hi⟩, ⟨by omega, hm.1.2⟩, hm.2⟩
    · split
      · next h =>
        subst h
        simp only [Memory.wfFrom, Bool.and_eq_true, decide_eq_true_eq]
        exact hm
      · next h1 h2 =>
        simp only [Memory.wfFrom, Bool.and_eq_true, decide_eq_true_eq]
        exact ⟨hm.1, Memory.wfFrom_write (by omega) hi hm.2⟩

theorem Memory.wf_nil : Memory.wf [] := rfl

theorem Memory.wf_write {m : Memory} {i : Nat} {b : Byte} (hm : m.wf) (hi : i < 4) : (m.write i b).wf :=
  Memory.wfFrom_write (Nat.zero_le i) hi hm

/-- Every operation that stores a byte keeps the canonical form of both buffers. -/
theorem append_keeps_wf (side : Side) (b : Byte) (s : State TS) (h : s.bufMosi.wf ∧ s.bufMiso.wf) :
    (append side b s).bufMosi.wf ∧ (append side b s).bufMiso.wf := by
  unfold append
  split
  · next hc =>
    have hc' : (s.count side).toNat < 4 := by simpa [BitVec.lt_def] using hc
    cases side
    · exact ⟨Memory.wf_write h.1 hc', h.2⟩
    · exact ⟨h.1, Memory.wf_write h.2 hc'⟩
  · cases side <;> exact h

theorem appendByte_keeps_wf (side : Side) (b : Option Byte) (s : State TS)
    (h : s.bufMosi.wf ∧ s.bufMiso.wf) :
    (appendByte side b s).bufMosi.wf ∧ (appendByte side b s).bufMiso.wf := by
  cases b with
  | none => exact h
  | some b => exact append_keeps_wf side b s h

theorem clear_keeps_wf (s : State TS) : (clear s).bufMosi.wf ∧ (clear s).bufMiso.wf := ⟨rfl, rfl⟩

theorem openAt_keeps_wf (ts : TS) (s : State TS) : (openAt ts s).bufMosi.wf ∧ (openAt ts s).bufMiso.wf :=
  ⟨rfl, rfl⟩

theorem close_keeps_wf (s : State TS) : (close s).bufMosi.wf ∧ (close s).bufMiso.wf := ⟨rfl, rfl⟩

theorem construct_keeps_wf (c : DecoderConfig) (s : State TS) :
    (construct c s).bufMosi.wf ∧ (construct c s).bufMiso.wf := ⟨rfl, rfl⟩

theorem reset_wf : State.reset.bufMosi.wf ∧ State.reset.bufMiso.wf := ⟨rfl, rfl⟩

theorem loadSide_keeps_wf (side : Side) (m : Frame) (s : State TS) (h : s.bufMosi.wf ∧ s.bufMiso.wf) :
    (loadSide side m s).bufMosi.wf ∧ (loadSide side m s).bufMiso.wf := by
  cases side
  · exact ⟨rfl, h.2⟩
  · exact ⟨h.1, rfl⟩

/-- Putting a word of the opcode table in place keeps the canonical form. -/
theorem placeWord_keeps_wf (filler : TS) (s : State TS) (nbits w : Nat) (h : s.bufMosi.wf ∧ s.bufMiso.wf) :
    (placeWord filler s nbits w).bufMosi.wf ∧ (placeWord filler s nbits w).bufMiso.wf := by
  unfold placeWord
  split
  · exact h
  · exact ⟨rfl, h.2⟩
  · exact ⟨h.1, rfl⟩

end Sys2Proof.Machine
end

