-- ==== Sys2Proof/Laws/State.lean ====
section
/-! SUPPORT. Laws/State.lean: for each named update of the state, what each field is afterwards. -/

namespace Sys2Proof.Machine

variable {TS : Type}

/-! ## `setOut` -/

@[simp] theorem setOut_fsm (r : Option (Record TS)) (s : State TS) : (setOut r s).fsm = s.fsm := rfl
@[simp] theorem setOut_bufMosi (r : Option (Record TS)) (s : State TS) : (setOut r s).bufMosi = s.bufMosi := rfl
@[simp] theorem setOut_cntMosi (r : Option (Record TS)) (s : State TS) : (setOut r s).cntMosi = s.cntMosi := rfl
@[simp] theorem setOut_bufMiso (r : Option (Record TS)) (s : State TS) : (setOut r s).bufMiso = s.bufMiso := rfl
@[simp] theorem setOut_cntMiso (r : Option (Record TS)) (s : State TS) : (setOut r s).cntMiso = s.cntMiso := rfl
@[simp] theorem setOut_tStart (r : Option (Record TS)) (s : State TS) : (setOut r s).tStart = s.tStart := rfl
@[simp] theorem setOut_cfg (r : Option (Record TS)) (s : State TS) : (setOut r s).cfg = s.cfg := rfl
@[simp] theorem setOut_params (r : Option (Record TS)) (s : State TS) : (setOut r s).params = s.params := rfl
@[simp] theorem setOut_out (r : Option (Record TS)) (s : State TS) : (setOut r s).out = r := rfl
@[simp] theorem setOut_inbox (r : Option (Record TS)) (s : State TS) : (setOut r s).inbox = s.inbox := rfl

/-! ## `mapOut` -/

@[simp] theorem mapOut_fsm (f : Record TS → Record TS) (s : State TS) : (mapOut f s).fsm = s.fsm := rfl
@[simp] theorem mapOut_bufMosi (f : Record TS → Record TS) (s : State TS) : (mapOut f s).bufMosi = s.bufMosi := rfl
@[simp] theorem mapOut_cntMosi (f : Record TS → Record TS) (s : State TS) : (mapOut f s).cntMosi = s.cntMosi := rfl
@[simp] theorem mapOut_bufMiso (f : Record TS → Record TS) (s : State TS) : (mapOut f s).bufMiso = s.bufMiso := rfl
@[simp] theorem mapOut_cntMiso (f : Record TS → Record TS) (s : State TS) : (mapOut f s).cntMiso = s.cntMiso := rfl
@[simp] theorem mapOut_tStart (f : Record TS → Record TS) (s : State TS) : (mapOut f s).tStart = s.tStart := rfl
@[simp] theorem mapOut_cfg (f : Record TS → Record TS) (s : State TS) : (mapOut f s).cfg = s.cfg := rfl
@[simp] theorem mapOut_params (f : Record TS → Record TS) (s : State TS) : (mapOut f s).params = s.params := rfl
@[simp] theorem mapOut_out (f : Record TS → Record TS) (s : State TS) : (mapOut f s).out = s.out.map f := rfl
@[simp] theorem mapOut_inbox (f : Record TS → Record TS) (s : State TS) : (mapOut f s).inbox = s.inbox := rfl

/-! ## `clear` -/

@[simp] theorem clear_fsm (s : State TS) : (clear s).fsm = s.fsm := rfl
@[simp] theorem clear_bufMosi (s : State TS) : (clear s).bufMosi = [] := rfl
@[simp] theorem clear_cntMosi (s : State TS) : (clear s).cntMosi = 0 := rfl
@[simp] theorem clear_bufMiso (s : State TS) : (clear s).bufMiso = [] := rfl
@[simp] theorem clear_cntMiso (s : State TS) : (clear s).cntMiso = 0 := rfl
@[simp] theorem clear_tStart (s : State TS) : (clear s).tStart = s.tStart := rfl
@[simp] theorem clear_cfg (s : State TS) : (clear s).cfg = s.cfg := rfl
@[simp] theorem clear_params (s : State TS) : (clear s).params = s.params := rfl
@[simp] theorem clear_out (s : State TS) : (clear s).out = s.out := rfl
@[simp] theorem clear_inbox (s : State TS) : (clear s).inbox = s.inbox := rfl

/-! ## `openAt` -/

@[simp] theorem openAt_fsm (ts : TS) (s : State TS) : (openAt ts s).fsm = .accumulating := rfl
@[simp] theorem openAt_bufMosi (ts : TS) (s : State TS) : (openAt ts s).bufMosi = [] := rfl
@[simp] theorem openAt_cntMosi (ts : TS) (s : State TS) : (openAt ts s).cntMosi = 0 := rfl
@[simp] theorem openAt_bufMiso (ts : TS) (s : State TS) : (openAt ts s).bufMiso = [] := rfl
@[simp] theorem openAt_cntMiso (ts : TS) (s : State TS) : (openAt ts s).cntMiso = 0 := rfl
@[simp] theorem openAt_tStart (ts : TS) (s : State TS) : (openAt ts s).tStart = ts := rfl
@[simp] theorem openAt_cfg (ts : TS) (s : State TS) : (openAt ts s).cfg = s.cfg := rfl
@[simp] theorem openAt_params (ts : TS) (s : State TS) : (openAt ts s).params = s.params := rfl
@[simp] theorem openAt_out (ts : TS) (s : State TS) : (openAt ts s).out = s.out := rfl
@[simp] theorem openAt_inbox (ts : TS) (s : State TS) : (openAt ts s).inbox = s.inbox := rfl

/-! ## `close` -/

@[simp] theorem close_fsm (s : State TS) : (close s).fsm = .waitEnable := rfl
@[simp] theorem close_bufMosi (s : State TS) : (close s).bufMosi = [] := rfl
@[simp] theorem close_cntMosi (s : State TS) : (close s).cntMosi = 0 := rfl
@[simp] theorem close_bufMiso (s : State TS) : (close s).bufMiso = [] := rfl
@[simp] theorem close_cntMiso (s : State TS) : (close s).cntMiso = 0 := rfl
@[simp] theorem close_tStart (s : State TS) : (close s).tStart = s.tStart := rfl
@[simp] theorem close_cfg (s : State TS) : (close s).cfg = s.cfg := rfl
@[simp] theorem close_params (s : State TS) : (close s).params = s.params := rfl
@[simp] theorem close_out (s : State TS) : (close s).out = s.out := rfl
@[simp] theorem close_inbox (s : State TS) : (close s).inbox = s.inbox := rfl

/-! ## `withBuffer_mosi` -/

@[simp] theorem withBuffer_mosi_fsm (s : State TS) (m : Memory) : (s.withBuffer .mosi m).fsm = s.fsm := rfl
@[simp] theorem withBuffer_mosi_bufMosi (s : State TS) (m : Memory) : (s.withBuffer .mosi m).bufMosi = m := rfl
@[simp] theorem withBuffer_mosi_cntMosi (s : State TS) (m : Memory) : (s.withBuffer .mosi m).cntMosi = s.cntMosi := rfl
@[simp] theorem withBuffer_mosi_bufMiso (s : State TS) (m : Memory) : (s.withBuffer .mosi m).bufMiso = s.bufMiso := rfl
@[simp] theorem withBuffer_mosi_cntMiso (s : State TS) (m : Memory) : (s.withBuffer .mosi m).cntMiso = s.cntMiso := rfl
@[simp] theorem withBuffer_mosi_tStart (s : State TS) (m : Memory) : (s.withBuffer .mosi m).tStart = s.tStart := rfl
@[simp] theorem withBuffer_mosi_cfg (s : State TS) (m : Memory) : (s.withBuffer .mosi m).cfg = s.cfg := rfl
@[simp] theorem withBuffer_mosi_params (s : State TS) (m : Memory) : (s.withBuffer .mosi m).params = s.params := rfl
@[simp] theorem withBuffer_mosi_out (s : State TS) (m : Memory) : (s.withBuffer .mosi m).out = s.out := rfl
@[simp] theorem withBuffer_mosi_inbox (s : State TS) (m : Memory) : (s.withBuffer .mosi m).inbox = s.inbox := rfl

/-! ## `withBuffer_miso` -/

@[simp] theorem withBuffer_miso_fsm (s : State TS) (m : Memory) : (s.withBuffer .miso m).fsm = s.fsm := rfl
@[simp] theorem withBuffer_miso_bufMosi (s : State TS) (m : Memory) : (s.withBuffer .miso m).bufMosi = s.bufMosi := rfl
@[simp] theorem withBuffer_miso_cntMosi (s : State TS) (m : Memory) : (s.withBuffer .miso m).cntMosi = s.cntMosi := rfl
@[simp] theorem withBuffer_miso_bufMiso (s : State TS) (m : Memory) : (s.withBuffer .miso m).bufMiso = m := rfl
@[simp] theorem withBuffer_miso_cntMiso (s : State TS) (m : Memory) : (s.withBuffer .miso m).cntMiso = s.cntMiso := rfl
@[simp] theorem withBuffer_miso_tStart (s : State TS) (m : Memory) : (s.withBuffer .miso m).tStart = s.tStart := rfl
@[simp] theorem withBuffer_miso_cfg (s : State TS) (m : Memory) : (s.withBuffer .miso m).cfg = s.cfg := rfl
@[simp] theorem withBuffer_miso_params (s : State TS) (m : Memory) : (s.withBuffer .miso m).params = s.params := rfl
@[simp] theorem withBuffer_miso_out (s : State TS) (m : Memory) : (s.withBuffer .miso m).out = s.out := rfl
@[simp] theorem withBuffer_miso_inbox (s : State TS) (m : Memory) : (s.withBuffer .miso m).inbox = s.inbox := rfl

/-! ## `withCount_mosi` -/

@[simp] theorem withCount_mosi_fsm (s : State TS) (n : BitVec 3) : (s.withCount .mosi n).fsm = s.fsm := rfl
@[simp] theorem withCount_mosi_bufMosi (s : State TS) (n : BitVec 3) : (s.withCount .mosi n).bufMosi = s.bufMosi := rfl
@[simp] theorem withCount_mosi_cntMosi (s : State TS) (n : BitVec 3) : (s.withCount .mosi n).cntMosi = n := rfl
@[simp] theorem withCount_mosi_bufMiso (s : State TS) (n : BitVec 3) : (s.withCount .mosi n).bufMiso = s.bufMiso := rfl
@[simp] theorem withCount_mosi_cntMiso (s : State TS) (n : BitVec 3) : (s.withCount .mosi n).cntMiso = s.cntMiso := rfl
@[simp] theorem withCount_mosi_tStart (s : State TS) (n : BitVec 3) : (s.withCount .mosi n).tStart = s.tStart := rfl
@[simp] theorem withCount_mosi_cfg (s : State TS) (n : BitVec 3) : (s.withCount .mosi n).cfg = s.cfg := rfl
@[simp] theorem withCount_mosi_params (s : State TS) (n : BitVec 3) : (s.withCount .mosi n).params = s.params := rfl
@[simp] theorem withCount_mosi_out (s : State TS) (n : BitVec 3) : (s.withCount .mosi n).out = s.out := rfl
@[simp] theorem withCount_mosi_inbox (s : State TS) (n : BitVec 3) : (s.withCount .mosi n).inbox = s.inbox := rfl

/-! ## `withCount_miso` -/

@[simp] theorem withCount_miso_fsm (s : State TS) (n : BitVec 3) : (s.withCount .miso n).fsm = s.fsm := rfl
@[simp] theorem withCount_miso_bufMosi (s : State TS) (n : BitVec 3) : (s.withCount .miso n).bufMosi = s.bufMosi := rfl
@[simp] theorem withCount_miso_cntMosi (s : State TS) (n : BitVec 3) : (s.withCount .miso n).cntMosi = s.cntMosi := rfl
@[simp] theorem withCount_miso_bufMiso (s : State TS) (n : BitVec 3) : (s.withCount .miso n).bufMiso = s.bufMiso := rfl
@[simp] theorem withCount_miso_cntMiso (s : State TS) (n : BitVec 3) : (s.withCount .miso n).cntMiso = n := rfl
@[simp] theorem withCount_miso_tStart (s : State TS) (n : BitVec 3) : (s.withCount .miso n).tStart = s.tStart := rfl
@[simp] theorem withCount_miso_cfg (s : State TS) (n : BitVec 3) : (s.withCount .miso n).cfg = s.cfg := rfl
@[simp] theorem withCount_miso_params (s : State TS) (n : BitVec 3) : (s.withCount .miso n).params = s.params := rfl
@[simp] theorem withCount_miso_out (s : State TS) (n : BitVec 3) : (s.withCount .miso n).out = s.out := rfl
@[simp] theorem withCount_miso_inbox (s : State TS) (n : BitVec 3) : (s.withCount .miso n).inbox = s.inbox := rfl

@[simp] theorem buffer_mosi (s : State TS) : s.buffer .mosi = s.bufMosi := rfl
@[simp] theorem count_mosi (s : State TS) : s.count .mosi = s.cntMosi := rfl
@[simp] theorem buffer_miso (s : State TS) : s.buffer .miso = s.bufMiso := rfl
@[simp] theorem count_miso (s : State TS) : s.count .miso = s.cntMiso := rfl

/-! ## Updates of the output port compose -/

@[simp] theorem setOut_setOut (a b : Option (Record TS)) (s : State TS) : setOut a (setOut b s) = setOut a s := rfl
@[simp] theorem mapOut_setOut (f : Record TS → Record TS) (r : Option (Record TS)) (s : State TS) :
    mapOut f (setOut r s) = setOut (r.map f) s := rfl
theorem mapOut_eq_setOut (f : Record TS → Record TS) (s : State TS) : mapOut f s = setOut (s.out.map f) s := rfl

/-! ## `construct` -/

@[simp] theorem construct_fsm (c : DecoderConfig) (s : State TS) : (construct c s).fsm = .waitEnable := rfl
@[simp] theorem construct_bufMosi (c : DecoderConfig) (s : State TS) : (construct c s).bufMosi = [] := rfl
@[simp] theorem construct_cntMosi (c : DecoderConfig) (s : State TS) : (construct c s).cntMosi = 0 := rfl
@[simp] theorem construct_bufMiso (c : DecoderConfig) (s : State TS) : (construct c s).bufMiso = [] := rfl
@[simp] theorem construct_cntMiso (c : DecoderConfig) (s : State TS) : (construct c s).cntMiso = 0 := rfl
@[simp] theorem construct_tStart (c : DecoderConfig) (s : State TS) : (construct c s).tStart = s.tStart := rfl
@[simp] theorem construct_cfg (c : DecoderConfig) (s : State TS) : (construct c s).cfg = c := rfl
@[simp] theorem construct_params (c : DecoderConfig) (s : State TS) : (construct c s).params = s.params := rfl
@[simp] theorem construct_out (c : DecoderConfig) (s : State TS) : (construct c s).out = none := rfl
@[simp] theorem construct_inbox (c : DecoderConfig) (s : State TS) : (construct c s).inbox = s.inbox := rfl

end Sys2Proof.Machine
end

