-- ==== Sys2Proof/Laws/Ops.lean ====
section
/-! SUPPORT. Laws/Ops.lean: one lemma per shared operation that says everything it can do. Later proofs
cite these and do not unfold the operations. -/

namespace Sys2Proof.Machine

variable {TS : Type}

@[simp] theorem andThen_next (s : State TS) (f : State TS → Result TS) : andThen (.next s) f = f s := rfl

/-! ## Frame assembly -/

/-- `frameOf` gives the big-endian frame of the four cells when the counter is 4, and nothing else. -/
theorem frameOf_eq (side : Side) (s : State TS) :
    frameOf side s =
      if (s.count side).toNat = 4 then
        some (frameOfBytes (cell s side 0) (cell s side 1) (cell s side 2) (cell s side 3))
      else none := rfl

theorem frameOf_isSome (side : Side) (s : State TS) :
    (frameOf side s).isSome = decide ((s.count side).toNat = 4) := by
  rw [frameOf_eq]; split <;> simp [*]

/-- A change of the output port does not change what a side assembles. -/
theorem frameOf_setOut (side : Side) (r : Option (Record TS)) (s : State TS) :
    frameOf side (setOut r s) = frameOf side s := by cases side <;> rfl

/-! ## Appending -/

/-- Below 4 the byte goes to the cell at the counter and the counter advances. -/
theorem append_below (side : Side) (b : Byte) (s : State TS) (h : s.count side < 4) :
    append side b s =
      (s.withBuffer side ((s.buffer side).write (s.count side).toNat b)).withCount side
        (s.count side + 1) := if_pos h

/-- From 4 on the byte is dropped and the counter is 5. -/
theorem append_full (side : Side) (b : Byte) (s : State TS) (h : ¬ s.count side < 4) :
    append side b s = s.withCount side 5 := if_neg h

/-- What an append leaves alone. -/
theorem appendByte_frame (side : Side) (b : Option Byte) (s : State TS) :
    (appendByte side b s).fsm = s.fsm ∧ (appendByte side b s).tStart = s.tStart ∧
      (appendByte side b s).cfg = s.cfg ∧ (appendByte side b s).params = s.params ∧
      (appendByte side b s).out = s.out ∧ (appendByte side b s).inbox = s.inbox := by
  cases b with
  | none => exact ⟨rfl, rfl, rfl, rfl, rfl, rfl⟩
  | some b =>
    simp only [appendByte, append]
    cases side <;> split <;> exact ⟨rfl, rfl, rfl, rfl, rfl, rfl⟩

theorem appendBoth_frame (mosi miso : Option Byte) (s : State TS) :
    (appendBoth mosi miso s).fsm = s.fsm ∧ (appendBoth mosi miso s).tStart = s.tStart ∧
      (appendBoth mosi miso s).cfg = s.cfg ∧ (appendBoth mosi miso s).params = s.params ∧
      (appendBoth mosi miso s).out = s.out ∧ (appendBoth mosi miso s).inbox = s.inbox := by
  obtain ⟨a1, a2, a3, a4, a5, a6⟩ := appendByte_frame .mosi mosi s
  obtain ⟨b1, b2, b3, b4, b5, b6⟩ := appendByte_frame .miso miso (appendByte .mosi mosi s)
  exact ⟨b1.trans a1, b2.trans a2, b3.trans a3, b4.trans a4, b5.trans a5, b6.trans a6⟩

/-! ## The rows of finalize -/

/-- The direction of a MOSI frame. -/
def dirOf (m : Frame) : Dir := if mosiRw m then .read else .write

/-- The MOSI side of a record, by the frame and not by its row. -/
def mosiPart (c : DecoderConfig) (p : Params) (m : Frame) : Record TS → Record TS :=
  decodeMosiSide c p (dirOf m) (mosiAddr m) (mosiData m) (mosiCmd m) (mosiCrc m)

/-- What the channels of a mode carry; the regular mode has none. -/
def modeChannels : DataType → Option (Quantity × Quantity)
  | .default => none
  | .xy => some (.magnetic .x, .magnetic .y)
  | .xz => some (.magnetic .x, .magnetic .z)
  | .zy => some (.magnetic .z, .magnetic .y)
  | .xt => some (.magnetic .x, .temperature)
  | .yt => some (.magnetic .y, .temperature)
  | .zt => some (.magnetic .z, .temperature)
  | .am => some (.angle, .magnitude)

/-- The mode-dependent part of the MISO side of a record, by the configured mode and not by its row. -/
def modePart (c : DecoderConfig) : Record TS → Record TS :=
  match modeChannels c.dataType with
  | none => decodeRegular c
  | some (q1, q2) => decodePair c q1 q2

/-- A write row is the one operation at the frame's address. -/
theorem runRow_decodeWrite (a : Addr) (d : Half) (c k : BitVec 4) (s : State TS) :
    runRow (decodeWrite a d c k) s = frameOp .write a d c k s := by
  unfold decodeWrite
  split
  case h_23 => split_ifs <;> rfl
  all_goals
    rename_i h
    have ha : a = BitVec.ofNat 7 a.toNat := by simp
    rw [h] at ha
    subst ha
    rfl

/-- A read row is the one operation at the frame's address. -/
theorem runRow_decodeRead (a : Addr) (d : Half) (c k : BitVec 4) (s : State TS) :
    runRow (decodeRead a d c k) s = frameOp .read a d c k s := by
  unfold decodeRead
  split
  case h_23 => split_ifs <;> rfl
  all_goals
    rename_i h
    have ha : a = BitVec.ofNat 7 a.toNat := by simp
    rw [h] at ha
    subst ha
    rfl

/-- The row of a MOSI frame does the MOSI side of the record on the output port, and nothing else. -/
theorem runRow_decodeMosi (m : Frame) (s : State TS) :
    runRow (decodeMosi m) s = .next (mapOut (mosiPart s.cfg s.params m) s) := by
  unfold decodeMosi mosiPart dirOf
  split
  · rw [runRow_decodeRead]; rfl
  · rw [runRow_decodeWrite]; rfl

/-- The row of the configured mode does the mode's part of the record, and nothing else. -/
theorem runRow_decodeDataType (s : State TS) :
    runRow (decodeDataType s.cfg.dataType) s = .next (mapOut (modePart s.cfg) s) := by
  cases h : s.cfg.dataType <;> simp only [modePart, modeChannels, h] <;> rfl

/-! ## Finalize -/

/-- The record of a finalize, as a function of the state before it. -/
def recordOf (ts1 : TS) (s : State TS) : Record TS :=
  let r0 := beginRecord ts1 s
  let r1 := match frameOf .mosi s with
    | some m => mosiPart s.cfg s.params m r0
    | none => r0
  let r2 := match frameOf .miso s with
    | some _ => modePart s.cfg r1
    | none => r1
  closeRecord r2

/-- Everything a finalize can do: it puts the record on the output port. -/
theorem finalize_eq (ts1 : TS) (s : State TS) :
    finalize ts1 s = .next (setOut (some (recordOf ts1 s)) s) := by
  unfold finalize recordOf runMosiRow
  rw [frameOf_setOut]
  cases hm : frameOf .mosi s with
  | none =>
    simp only [andThen_next]
    unfold runModeRow
    rw [frameOf_setOut]
    cases hs : frameOf .miso s with
    | none => rfl
    | some f => simp only [runRow_decodeDataType]; rfl
  | some m =>
    simp only [runRow_decodeMosi, andThen_next, mapOut_setOut]
    unfold runModeRow
    rw [frameOf_setOut]
    cases hs : frameOf .miso s with
    | none => rfl
    | some f => simp only [runRow_decodeDataType]; rfl

/-! ## The event rows -/

/-- RESULT, when the early-finalize test fires. -/
theorem execResult_fires (ts : TS) (mosi miso : Option Byte) (s : State TS)
    (h : firesEarly (appendBoth mosi miso s) = true) :
    execResult ts mosi miso s =
      .next (openAt ts (setOut (some (recordOf ts (appendBoth mosi miso s))) (appendBoth mosi miso s))) := by
  simp [execResult, h, finalize_eq]

/-- RESULT, when it does not. -/
theorem execResult_quiet (ts : TS) (mosi miso : Option Byte) (s : State TS)
    (h : firesEarly (appendBoth mosi miso s) = false) :
    execResult ts mosi miso s =
      .next (setOut none { appendBoth mosi miso s with fsm := .accumulating }) := by
  simp [execResult, h]

/-- DISABLE with a record. -/
theorem execDisable_emits (ts : TS) (s : State TS) (h : suppressed s = false) :
    execDisable ts s = .next (close (setOut (some (recordOf ts s)) s)) := by
  simp [execDisable, h, finalize_eq]

/-- DISABLE of an empty transaction under `EMPTY_FINALIZE_EMITS = false`. -/
theorem execDisable_suppressed (ts : TS) (s : State TS) (h : suppressed s = true) :
    execDisable ts s = .next (setOut none (close s)) := by
  simp [execDisable, h]

/-! ## The step -/

/-- Everything a step can do, by the next input. -/
theorem step_eq (s : State) :
    step s =
      match s.inbox with
      | [] => .next (setOut none s)
      | .event ev :: rest => exec (decodeEvent s.fsm ev) { s with inbox := rest }
      | .construct cfg :: rest => .next (construct cfg { s with inbox := rest }) := by
  unfold step fetch
  cases s.inbox with
  | nil => rfl
  | cons i rest => cases i <;> rfl

/-- Everything a step over any type of timestamps can do, by the next input. -/
theorem stepOver_eq (s : State TS) :
    stepOver s =
      match s.inbox with
      | [] => .next (setOut none s)
      | .event ev :: rest => execOver (decodeEvent s.fsm ev) { s with inbox := rest }
      | .construct cfg :: rest => .next (construct cfg { s with inbox := rest }) := by
  unfold stepOver fetch
  cases s.inbox with
  | nil => rfl
  | cons i rest => cases i <;> rfl

end Sys2Proof.Machine
end

