-- ==== Sys2Proof/Laws/PerInstr.lean ====
section
/-! SUPPORT. Laws/PerInstr.lean: statements made for every instruction, one lemma per constructor. -/

namespace Sys2Proof.Laws.EncodeShape

/-- The word of an instruction has the shape of its format (30_encoding.md R71, R72, R81): an event delivers
bytes only if it is a RESULT, a frame has four bytes, and a data type code is the code of its own mode. -/
def Statement (i : Instr) : Prop :=
  ∀ filler, match encode filler i with
  | .event _ ev => ev.kind = 1 ∨ (ev.mosiValid = false ∧ ev.misoValid = false)
  | .frame bytes => bytes.length = 4
  | .dataType c => (DataType.ofCode c).code = c

theorem enable (ts : Stamp) : Statement (.enable ts) := fun _ => Or.inr ⟨rfl, rfl⟩
theorem enableRestart (ts : Stamp) : Statement (.enableRestart ts) := fun _ => Or.inr ⟨rfl, rfl⟩
theorem resultIgnored : Statement .resultIgnored := fun _ => Or.inl rfl
theorem result (ts : Stamp) (mosi miso : Option Byte) : Statement (.result ts mosi miso) := fun _ => Or.inl rfl
theorem disableIgnored : Statement .disableIgnored := fun _ => Or.inr ⟨rfl, rfl⟩
theorem disable (ts : Stamp) : Statement (.disable ts) := fun _ => Or.inr ⟨rfl, rfl⟩
theorem reservedKind3 : Statement .reservedKind3 := fun _ => Or.inr ⟨rfl, rfl⟩
theorem wrDeviceConfig (data : Half) (cmd crc : BitVec 4) : Statement (.wrDeviceConfig data cmd crc) := fun _ => rfl
theorem wrSensorConfig (data : Half) (cmd crc : BitVec 4) : Statement (.wrSensorConfig data cmd crc) := fun _ => rfl
theorem wrSystemConfig (data : Half) (cmd crc : BitVec 4) : Statement (.wrSystemConfig data cmd crc) := fun _ => rfl
theorem wrAlertConfig (data : Half) (cmd crc : BitVec 4) : Statement (.wrAlertConfig data cmd crc) := fun _ => rfl
theorem wrXThrxConfig (data : Half) (cmd crc : BitVec 4) : Statement (.wrXThrxConfig data cmd crc) := fun _ => rfl
theorem wrYThrxConfig (data : Half) (cmd crc : BitVec 4) : Statement (.wrYThrxConfig data cmd crc) := fun _ => rfl
theorem wrZThrxConfig (data : Half) (cmd crc : BitVec 4) : Statement (.wrZThrxConfig data cmd crc) := fun _ => rfl
theorem wrTThrxConfig (data : Half) (cmd crc : BitVec 4) : Statement (.wrTThrxConfig data cmd crc) := fun _ => rfl
theorem wrConvStatus (data : Half) (cmd crc : BitVec 4) : Statement (.wrConvStatus data cmd crc) := fun _ => rfl
theorem wrXChResult (data : Half) (cmd crc : BitVec 4) : Statement (.wrXChResult data cmd crc) := fun _ => rfl
theorem wrYChResult (data : Half) (cmd crc : BitVec 4) : Statement (.wrYChResult data cmd crc) := fun _ => rfl
theorem wrZChResult (data : Half) (cmd crc : BitVec 4) : Statement (.wrZChResult data cmd crc) := fun _ => rfl
theorem wrTempResult (data : Half) (cmd crc : BitVec 4) : Statement (.wrTempResult data cmd crc) := fun _ => rfl
theorem wrAfeStatus (data : Half) (cmd crc : BitVec 4) : Statement (.wrAfeStatus data cmd crc) := fun _ => rfl
theorem wrSysStatus (data : Half) (cmd crc : BitVec 4) : Statement (.wrSysStatus data cmd crc) := fun _ => rfl
theorem wrTestConfig (data : Half) (cmd crc : BitVec 4) : Statement (.wrTestConfig data cmd crc) := fun _ => rfl
theorem wrOscMonitor (data : Half) (cmd crc : BitVec 4) : Statement (.wrOscMonitor data cmd crc) := fun _ => rfl
theorem wrMagGainConfig (data : Half) (cmd crc : BitVec 4) : Statement (.wrMagGainConfig data cmd crc) := fun _ => rfl
theorem wrMagOffsetConfig (data : Half) (cmd crc : BitVec 4) : Statement (.wrMagOffsetConfig data cmd crc) := fun _ => rfl
theorem wrAngleResult (data : Half) (cmd crc : BitVec 4) : Statement (.wrAngleResult data cmd crc) := fun _ => rfl
theorem wrMagnitudeResult (data : Half) (cmd crc : BitVec 4) : Statement (.wrMagnitudeResult data cmd crc) := fun _ => rfl
theorem wrUnknown15 (data : Half) (cmd crc : BitVec 4) : Statement (.wrUnknown15 data cmd crc) := fun _ => rfl
theorem wrUnknown16 (addr : Addr) (data : Half) (cmd crc : BitVec 4) :
    Statement (.wrUnknown16 addr data cmd crc) := fun _ => rfl
theorem wrUnknown18 (addr : Addr) (data : Half) (cmd crc : BitVec 4) :
    Statement (.wrUnknown18 addr data cmd crc) := fun _ => rfl
theorem wrUnknown20 (addr : Addr) (data : Half) (cmd crc : BitVec 4) :
    Statement (.wrUnknown20 addr data cmd crc) := fun _ => rfl
theorem wrUnknown40 (addr : Addr) (data : Half) (cmd crc : BitVec 4) :
    Statement (.wrUnknown40 addr data cmd crc) := fun _ => rfl
theorem rdDeviceConfig (data : Half) (cmd crc : BitVec 4) : Statement (.rdDeviceConfig data cmd crc) := fun _ => rfl
theorem rdSensorConfig (data : Half) (cmd crc : BitVec 4) : Statement (.rdSensorConfig data cmd crc) := fun _ => rfl
theorem rdSystemConfig (data : Half) (cmd crc : BitVec 4) : Statement (.rdSystemConfig data cmd crc) := fun _ => rfl
theorem rdAlertConfig (data : Half) (cmd crc : BitVec 4) : Statement (.rdAlertConfig data cmd crc) := fun _ => rfl
theorem rdXThrxConfig (data : Half) (cmd crc : BitVec 4) : Statement (.rdXThrxConfig data cmd crc) := fun _ => rfl
theorem rdYThrxConfig (data : Half) (cmd crc : BitVec 4) : Statement (.rdYThrxConfig data cmd crc) := fun _ => rfl
theorem rdZThrxConfig (data : Half) (cmd crc : BitVec 4) : Statement (.rdZThrxConfig data cmd crc) := fun _ => rfl
theorem rdTThrxConfig (data : Half) (cmd crc : BitVec 4) : Statement (.rdTThrxConfig data cmd crc) := fun _ => rfl
theorem rdConvStatus (data : Half) (cmd crc : BitVec 4) : Statement (.rdConvStatus data cmd crc) := fun _ => rfl
theorem rdXChResult (data : Half) (cmd crc : BitVec 4) : Statement (.rdXChResult data cmd crc) := fun _ => rfl
theorem rdYChResult (data : Half) (cmd crc : BitVec 4) : Statement (.rdYChResult data cmd crc) := fun _ => rfl
theorem rdZChResult (data : Half) (cmd crc : BitVec 4) : Statement (.rdZChResult data cmd crc) := fun _ => rfl
theorem rdTempResult (data : Half) (cmd crc : BitVec 4) : Statement (.rdTempResult data cmd crc) := fun _ => rfl
theorem rdAfeStatus (data : Half) (cmd crc : BitVec 4) : Statement (.rdAfeStatus data cmd crc) := fun _ => rfl
theorem rdSysStatus (data : Half) (cmd crc : BitVec 4) : Statement (.rdSysStatus data cmd crc) := fun _ => rfl
theorem rdTestConfig (data : Half) (cmd crc : BitVec 4) : Statement (.rdTestConfig data cmd crc) := fun _ => rfl
theorem rdOscMonitor (data : Half) (cmd crc : BitVec 4) : Statement (.rdOscMonitor data cmd crc) := fun _ => rfl
theorem rdMagGainConfig (data : Half) (cmd crc : BitVec 4) : Statement (.rdMagGainConfig data cmd crc) := fun _ => rfl
theorem rdMagOffsetConfig (data : Half) (cmd crc : BitVec 4) : Statement (.rdMagOffsetConfig data cmd crc) := fun _ => rfl
theorem rdAngleResult (data : Half) (cmd crc : BitVec 4) : Statement (.rdAngleResult data cmd crc) := fun _ => rfl
theorem rdMagnitudeResult (data : Half) (cmd crc : BitVec 4) : Statement (.rdMagnitudeResult data cmd crc) := fun _ => rfl
theorem rdUnknown15 (data : Half) (cmd crc : BitVec 4) : Statement (.rdUnknown15 data cmd crc) := fun _ => rfl
theorem rdUnknown16 (addr : Addr) (data : Half) (cmd crc : BitVec 4) :
    Statement (.rdUnknown16 addr data cmd crc) := fun _ => rfl
theorem rdUnknown18 (addr : Addr) (data : Half) (cmd crc : BitVec 4) :
    Statement (.rdUnknown18 addr data cmd crc) := fun _ => rfl
theorem rdUnknown20 (addr : Addr) (data : Half) (cmd crc : BitVec 4) :
    Statement (.rdUnknown20 addr data cmd crc) := fun _ => rfl
theorem rdUnknown40 (addr : Addr) (data : Half) (cmd crc : BitVec 4) :
    Statement (.rdUnknown40 addr data cmd crc) := fun _ => rfl
theorem misoDefault : Statement .misoDefault := fun _ => rfl
theorem misoXy : Statement .misoXy := fun _ => rfl
theorem misoXz : Statement .misoXz := fun _ => rfl
theorem misoZy : Statement .misoZy := fun _ => rfl
theorem misoXt : Statement .misoXt := fun _ => rfl
theorem misoYt : Statement .misoYt := fun _ => rfl
theorem misoZt : Statement .misoZt := fun _ => rfl
theorem misoAm : Statement .misoAm := fun _ => rfl

end Sys2Proof.Laws.EncodeShape
end

