-- ==== Sys2Proof/Laws/Record.lean ====
section
/-! SUPPORT. Laws/Record.lean: what the frame-level operations do to the record being assembled, field by
field, and to the state. -/

namespace Sys2Proof.Machine

variable {TS : Type}

/-! ## On the state: only the record on the output port -/

theorem mapOut_some (f : Record TS → Record TS) (s : State TS) (r : Record TS) (h : s.out = some r) :
    mapOut f s = { s with out := some (f r) } := by simp [mapOut, h]

theorem mapOut_none (f : Record TS → Record TS) (s : State TS) (h : s.out = none) : mapOut f s = s := by
  cases s; simp_all [mapOut]

/-- Everything a MOSI_FRAME row can do. -/
theorem frameOp_eq (dir : Dir) (addr : Addr) (data : Half) (cmd crc : BitVec 4) (s : State TS) :
    frameOp dir addr data cmd crc s =
      .next (mapOut (decodeMosiSide s.cfg s.params dir addr data cmd crc) s) := rfl

/-- Everything a channel-pair row can do. -/
theorem pairOp_eq (q1 q2 : Quantity) (s : State TS) :
    pairOp q1 q2 s = .next (mapOut (decodePair s.cfg q1 q2) s) := rfl

/-- Everything a construct input can do: the state after reset, with the latch, the parameters and the later
inputs kept. -/
theorem construct_eq (c : DecoderConfig) (s : State) :
    construct c s =
      { State.reset with cfg := c, params := s.params, tStart := s.tStart, inbox := s.inbox } := rfl

/-! ## On the record: the MOSI side -/

/-- Without fields there is no register annotation (45_unit_conversion.md R230). -/
@[simp] theorem unitsReport_none (c : DecoderConfig) (p : Params) (addr : Addr) (value : Option Half) :
    unitsReport c p addr value none = noUnits := by cases value <;> rfl

/-- Without a payload there are no fields (43_frame_assembler.md R176). -/
@[simp] theorem unpackedFields_none (m : RegMap) (addr : Addr) : unpackedFields m addr none = none := rfl

section
variable (c : DecoderConfig) (p : Params) (dir : Dir) (addr : Addr) (data : Half) (cmd crc : BitVec 4)
  (r : Record TS)

@[simp] theorem decodeMosiSide_mosiFrame :
    (decodeMosiSide c p dir addr data cmd crc r).mosiFrame =
      some (mosiFrameOf (dir == .read) addr data cmd crc) := rfl
@[simp] theorem decodeMosiSide_mosiCrc :
    (decodeMosiSide c p dir addr data cmd crc r).mosiCrc =
      crcReport c (mosiFrameOf (dir == .read) addr data cmd crc) := rfl
@[simp] theorem decodeMosiSide_dir : (decodeMosiSide c p dir addr data cmd crc r).dir = some dir := rfl
@[simp] theorem decodeMosiSide_addr : (decodeMosiSide c p dir addr data cmd crc r).addr = some addr := rfl
@[simp] theorem decodeMosiSide_regKnown :
    (decodeMosiSide c p dir addr data cmd crc r).regKnown = some (lookup p.regmap addr).isSome := rfl
@[simp] theorem decodeMosiSide_mosiData :
    (decodeMosiSide c p dir addr data cmd crc r).mosiData = some data := rfl
@[simp] theorem decodeMosiSide_regValue :
    (decodeMosiSide c p dir addr data cmd crc r).regValue = payload dir data r.misoFrame c.dataType := rfl
@[simp] theorem decodeMosiSide_fields :
    (decodeMosiSide c p dir addr data cmd crc r).fields =
      unpackedFields p.regmap addr (payload dir data r.misoFrame c.dataType) := rfl
@[simp] theorem decodeMosiSide_cmd :
    (decodeMosiSide c p dir addr data cmd crc r).cmd = cmdReport c cmd := rfl
@[simp] theorem decodeMosiSide_misoFrame :
    (decodeMosiSide c p dir addr data cmd crc r).misoFrame = r.misoFrame := rfl
@[simp] theorem decodeMosiSide_misoCrc :
    (decodeMosiSide c p dir addr data cmd crc r).misoCrc = r.misoCrc := rfl
@[simp] theorem decodeMosiSide_lenErrMosi :
    (decodeMosiSide c p dir addr data cmd crc r).lenErrMosi = r.lenErrMosi := rfl
@[simp] theorem decodeMosiSide_lenErrMiso :
    (decodeMosiSide c p dir addr data cmd crc r).lenErrMiso = r.lenErrMiso := rfl
@[simp] theorem decodeMosiSide_tStart :
    (decodeMosiSide c p dir addr data cmd crc r).tStart = r.tStart := rfl
@[simp] theorem decodeMosiSide_tEnd : (decodeMosiSide c p dir addr data cmd crc r).tEnd = r.tEnd := rfl
@[simp] theorem decodeMosiSide_stat : (decodeMosiSide c p dir addr data cmd crc r).stat = r.stat := rfl

end

/-- The fields present are the unpacked payload, when the address is known (43_frame_assembler.md R176). -/
theorem unpackedFields_eq (m : RegMap) (a : Addr) (v : Option Half) :
    unpackedFields m a v = v.bind fun x => (lookup m a).map fun d => unpack d x := by
  unfold unpackedFields; cases v <;> cases lookup m a <;> rfl

/-- Exactly the addresses of the table are known. -/
theorem lookup_isSome (m : RegMap) (a : Addr) : (lookup m a).isSome = decide (a.toNat ≤ 0x14) := by
  unfold lookup; split <;> simp_all

/-! ## On the record: the mode-dependent part -/

/-- Without a MISO frame a DATA_TYPE row changes nothing. -/
theorem decodeRegular_none (c : DecoderConfig) (r : Record TS) (h : r.misoFrame = none) :
    decodeRegular c r = r := by simp [decodeRegular, h]

theorem decodePair_none (c : DecoderConfig) (q1 q2 : Quantity) (r : Record TS) (h : r.misoFrame = none) :
    decodePair c q1 q2 r = r := by simp [decodePair, h]

/-- With one, the regular row sets the register data and the 8-bit status and clears the channels. -/
theorem decodeRegular_some (c : DecoderConfig) (r : Record TS) (f : Frame) (h : r.misoFrame = some f) :
    decodeRegular c r =
      { r with
        misoData := some (misoDataOf f), ch1Raw := none, ch1Val := none, ch2Raw := none, ch2Val := none
        stat8 := stat8Report c f, ch1Unit := none, ch2Unit := none } := by simp [decodeRegular, h]

/-- A channel-pair row sets both channels and clears the register data and the 8-bit status. -/
theorem decodePair_some (c : DecoderConfig) (q1 q2 : Quantity) (r : Record TS) (f : Frame)
    (h : r.misoFrame = some f) :
    decodePair c q1 q2 r =
      { r with
        misoData := none, ch1Raw := some (chan1 f), ch1Val := some (ext12 (chan1 f) q1.signed)
        ch2Raw := some (chan2 f), ch2Val := some (ext12 (chan2 f) q2.signed), stat8 := none
        ch1Unit := channelUnit c q1 (chan1 f), ch2Unit := channelUnit c q2 (chan2 f) } := by
  simp [decodePair, h]

end Sys2Proof.Machine
end

