-- ==== Sys2Proof/Laws/Relabel.lean ====
section
/-! SUPPORT. Laws/Relabel.lean: what renaming the timestamps of a state, a record or an input leaves as it
was, field by field. -/

namespace Sys2Proof.Machine

section
variable {TS US : Type} (f : TS → US) (s : State TS) (r : Record TS)

@[simp] theorem relabel_fsm : (s.relabel f).fsm = s.fsm := rfl
@[simp] theorem relabel_bufMosi : (s.relabel f).bufMosi = s.bufMosi := rfl
@[simp] theorem relabel_cntMosi : (s.relabel f).cntMosi = s.cntMosi := rfl
@[simp] theorem relabel_bufMiso : (s.relabel f).bufMiso = s.bufMiso := rfl
@[simp] theorem relabel_cntMiso : (s.relabel f).cntMiso = s.cntMiso := rfl
@[simp] theorem relabel_tStart : (s.relabel f).tStart = f s.tStart := rfl
@[simp] theorem relabel_cfg : (s.relabel f).cfg = s.cfg := rfl
@[simp] theorem relabel_params : (s.relabel f).params = s.params := rfl
@[simp] theorem relabel_out : (s.relabel f).out = s.out.map (Record.relabel f) := rfl
@[simp] theorem relabel_inbox : (s.relabel f).inbox = s.inbox.map (relabelInput f) := rfl

@[simp] theorem record_relabel_tStart : (r.relabel f).tStart = f r.tStart := rfl
@[simp] theorem record_relabel_tEnd : (r.relabel f).tEnd = f r.tEnd := rfl
@[simp] theorem record_relabel_misoFrame : (r.relabel f).misoFrame = r.misoFrame := rfl
@[simp] theorem record_relabel_withoutTimes : (r.relabel f).withoutTimes = r.withoutTimes := rfl

/-- A side's frame does not depend on the timestamps. -/
@[simp] theorem frameOf_relabel (side : Side) : frameOf side (s.relabel f) = frameOf side s := by
  cases side <;> rfl

end

end Sys2Proof.Machine
end

