-- ==== Sys2Proof/Tests/Slice0.lean ====
section
/-! SUPPORT. Tests/Slice0.lean: tests whose expected values come from the spec (the opcode table, the
examples of the rules, spec/95_test_vectors.md), and for every statement with hypotheses a witness that meets
them. -/

set_option maxRecDepth 4000
set_option Elab.async false

namespace Sys2Proof.Tests

open Sys2Proof.Machine

/-! ## Helpers -/

/-- The cells of a list of bytes. -/
def cells (bs : List Byte) : Memory := bs.zipIdx.map fun p => (p.2, p.1)

/-- An open transaction with these bytes on its two sides (at most four each). -/
def opened (c : DecoderConfig) (p : Params) (mosi miso : List Byte) : State :=
  { State.reset with
    fsm := .accumulating, cfg := c, params := p
    bufMosi := cells mosi, cntMosi := BitVec.ofNat 3 mosi.length
    bufMiso := cells miso, cntMiso := BitVec.ofNat 3 miso.length }

/-- The configuration of 95_test_vectors.md section 2.6. -/
def cfgV : DecoderConfig :=
  { dataType := .default, brX := .notSelected, brY := .notSelected, brZ := .notSelected, convEn := false,
    crcCheckEn := true, statNibbleEn := true, stat8En := true, earlyFinalize := false }

/-- An open transaction holding two frames. -/
def full (c : DecoderConfig) (m f : Frame) : State :=
  opened c defaultParams (bytesOfFrame m) (bytesOfFrame f)

/-- The state with a record being assembled, that of its own finalize. -/
def begun (s : State) : State := setOut (some (beginRecord ⟨1⟩ s)) s

/-- The next state of a result, or the state after reset. -/
def after : Result → State
  | .next s => s
  | .fault _ => State.reset
  | .refused _ => State.reset

/-- What a DISABLE at time 1 reports, through `g`. -/
def seen {α : Type} (s : State) (g : Record → α) : Option α := (after (exec (.disable ⟨1⟩) s)).out.map g

/-- What one MOSI_FRAME or DATA_TYPE row does to the record of a state. -/
def rowSeen {α : Type} (i : Instr) (s : State) (g : Record → α) : Option α :=
  (after (exec i (begun s))).out.map g

/-- The sequencing part of a state. -/
structure Seq where
  fsm : Fsm
  cntMosi : BitVec 3
  cntMiso : BitVec 3
  tStart : Stamp
  record : Bool
deriving DecidableEq, Repr

/-- The sequencing state after an instruction, and whether a record was produced. -/
def seq (i : Instr) (s : State) : Seq :=
  let t := after (exec i s)
  ⟨t.fsm, t.cntMosi, t.cntMiso, t.tStart, t.out.isSome⟩

/-! ## Well-formedness: each check refuses an ill-formed term -/

theorem test_wellFormed_wrUnknown16 :
    (.wrUnknown16 0x18 0 0 0 : Instr).wellFormed = false ∧ (.wrUnknown16 0x17 0 0 0 : Instr).wellFormed = true := by
  decide

theorem test_wellFormed_wrUnknown18 :
    (.wrUnknown18 0x17 0 0 0 : Instr).wellFormed = false ∧ (.wrUnknown18 0x1F 0 0 0 : Instr).wellFormed = true := by
  decide

theorem test_wellFormed_wrUnknown20 :
    (.wrUnknown20 0x40 0 0 0 : Instr).wellFormed = false ∧ (.wrUnknown20 0x3F 0 0 0 : Instr).wellFormed = true := by
  decide

theorem test_wellFormed_wrUnknown40 :
    (.wrUnknown40 0x3F 0 0 0 : Instr).wellFormed = false ∧ (.wrUnknown40 0x40 0 0 0 : Instr).wellFormed = true := by
  decide

theorem test_wellFormed_rdUnknown16 :
    (.rdUnknown16 0x18 0 0 0 : Instr).wellFormed = false ∧ (.rdUnknown16 0x17 0 0 0 : Instr).wellFormed = true := by
  decide

theorem test_wellFormed_rdUnknown18 :
    (.rdUnknown18 0x17 0 0 0 : Instr).wellFormed = false ∧ (.rdUnknown18 0x1F 0 0 0 : Instr).wellFormed = true := by
  decide

theorem test_wellFormed_rdUnknown20 :
    (.rdUnknown20 0x40 0 0 0 : Instr).wellFormed = false ∧ (.rdUnknown20 0x3F 0 0 0 : Instr).wellFormed = true := by
  decide

theorem test_wellFormed_rdUnknown40 :
    (.rdUnknown40 0x3F 0 0 0 : Instr).wellFormed = false ∧ (.rdUnknown40 0x40 0 0 0 : Instr).wellFormed = true := by
  decide

/-! ## Decoding: words written out from 30_encoding.md R71, R72, R81 and 10_state.md R31 -/

/-- Kind 0 to 3 in each state (43_frame_assembler.md R170). A RESULT without a valid bit has no byte. The
timestamps are numbers here: the type is a parameter. -/
theorem test_decode_events :
    decodeEvent .waitEnable { kind := 0, ts := (7 : Nat), mosiValid := true, mosi := 1, misoValid := true, miso := 2 }
      = .enable 7 ∧
    decodeEvent .accumulating { kind := 0, ts := (7 : Nat), mosiValid := false, mosi := 0, misoValid := false, miso := 0 }
      = .enableRestart 7 ∧
    decodeEvent .waitEnable { kind := 1, ts := (7 : Nat), mosiValid := true, mosi := 1, misoValid := true, miso := 2 }
      = .resultIgnored ∧
    decodeEvent .accumulating { kind := 1, ts := (7 : Nat), mosiValid := true, mosi := 1, misoValid := false, miso := 2 }
      = .result 7 (some 1) none ∧
    decodeEvent .waitEnable { kind := 2, ts := (7 : Nat), mosiValid := false, mosi := 0, misoValid := false, miso := 0 }
      = .disableIgnored ∧
    decodeEvent .accumulating { kind := 2, ts := (7 : Nat), mosiValid := false, mosi := 0, misoValid := false, miso := 0 }
      = .disable 7 ∧
    decodeEvent .accumulating { kind := 3, ts := (7 : Nat), mosiValid := true, mosi := 1, misoValid := false, miso := 0 }
      = .reservedKind3 := by decide

/-- Top byte 0x00 to 0x0C: bit 31 is 0, bits 30:24 the address, then data 0x1234, command 5, CRC 0xA. -/
theorem test_decode_writes_low :
    decode (.frame [0x00, 0x12, 0x34, 0x5A] : Code) = .ok (.wrDeviceConfig 0x1234 0x5 0xA) ∧
    decode (.frame [0x01, 0x12, 0x34, 0x5A] : Code) = .ok (.wrSensorConfig 0x1234 0x5 0xA) ∧
    decode (.frame [0x02, 0x12, 0x34, 0x5A] : Code) = .ok (.wrSystemConfig 0x1234 0x5 0xA) ∧
    decode (.frame [0x03, 0x12, 0x34, 0x5A] : Code) = .ok (.wrAlertConfig 0x1234 0x5 0xA) ∧
    decode (.frame [0x04, 0x12, 0x34, 0x5A] : Code) = .ok (.wrXThrxConfig 0x1234 0x5 0xA) ∧
    decode (.frame [0x05, 0x12, 0x34, 0x5A] : Code) = .ok (.wrYThrxConfig 0x1234 0x5 0xA) ∧
    decode (.frame [0x06, 0x12, 0x34, 0x5A] : Code) = .ok (.wrZThrxConfig 0x1234 0x5 0xA) ∧
    decode (.frame [0x07, 0x12, 0x34, 0x5A] : Code) = .ok (.wrTThrxConfig 0x1234 0x5 0xA) ∧
    decode (.frame [0x08, 0x12, 0x34, 0x5A] : Code) = .ok (.wrConvStatus 0x1234 0x5 0xA) ∧
    decode (.frame [0x09, 0x12, 0x34, 0x5A] : Code) = .ok (.wrXChResult 0x1234 0x5 0xA) ∧
    decode (.frame [0x0A, 0x12, 0x34, 0x5A] : Code) = .ok (.wrYChResult 0x1234 0x5 0xA) ∧
    decode (.frame [0x0B, 0x12, 0x34, 0x5A] : Code) = .ok (.wrZChResult 0x1234 0x5 0xA) ∧
    decode (.frame [0x0C, 0x12, 0x34, 0x5A] : Code) = .ok (.wrTempResult 0x1234 0x5 0xA) := by decide

/-- Top byte 0x0D to 0x14 and one of each unknown block. -/
theorem test_decode_writes_high :
    decode (.frame [0x0D, 0x12, 0x34, 0x5A] : Code) = .ok (.wrAfeStatus 0x1234 0x5 0xA) ∧
    decode (.frame [0x0E, 0x12, 0x34, 0x5A] : Code) = .ok (.wrSysStatus 0x1234 0x5 0xA) ∧
    decode (.frame [0x0F, 0x12, 0x34, 0x5A] : Code) = .ok (.wrTestConfig 0x1234 0x5 0xA) ∧
    decode (.frame [0x10, 0x12, 0x34, 0x5A] : Code) = .ok (.wrOscMonitor 0x1234 0x5 0xA) ∧
    decode (.frame [0x11, 0x12, 0x34, 0x5A] : Code) = .ok (.wrMagGainConfig 0x1234 0x5 0xA) ∧
    decode (.frame [0x12, 0x12, 0x34, 0x5A] : Code) = .ok (.wrMagOffsetConfig 0x1234 0x5 0xA) ∧
    decode (.frame [0x13, 0x12, 0x34, 0x5A] : Code) = .ok (.wrAngleResult 0x1234 0x5 0xA) ∧
    decode (.frame [0x14, 0x12, 0x34, 0x5A] : Code) = .ok (.wrMagnitudeResult 0x1234 0x5 0xA) ∧
    decode (.frame [0x15, 0x12, 0x34, 0x5A] : Code) = .ok (.wrUnknown15 0x1234 0x5 0xA) ∧
    decode (.frame [0x17, 0x12, 0x34, 0x5A] : Code) = .ok (.wrUnknown16 0x17 0x1234 0x5 0xA) ∧
    decode (.frame [0x1F, 0x12, 0x34, 0x5A] : Code) = .ok (.wrUnknown18 0x1F 0x1234 0x5 0xA) ∧
    decode (.frame [0x3F, 0x12, 0x34, 0x5A] : Code) = .ok (.wrUnknown20 0x3F 0x1234 0x5 0xA) ∧
    decode (.frame [0x7F, 0x12, 0x34, 0x5A] : Code) = .ok (.wrUnknown40 0x7F 0x1234 0x5 0xA) := by decide

/-- The same with bit 31 at 1. -/
theorem test_decode_reads_low :
    decode (.frame [0x80, 0x12, 0x34, 0x5A] : Code) = .ok (.rdDeviceConfig 0x1234 0x5 0xA) ∧
    decode (.frame [0x81, 0x12, 0x34, 0x5A] : Code) = .ok (.rdSensorConfig 0x1234 0x5 0xA) ∧
    decode (.frame [0x82, 0x12, 0x34, 0x5A] : Code) = .ok (.rdSystemConfig 0x1234 0x5 0xA) ∧
    decode (.frame [0x83, 0x12, 0x34, 0x5A] : Code) = .ok (.rdAlertConfig 0x1234 0x5 0xA) ∧
    decode (.frame [0x84, 0x12, 0x34, 0x5A] : Code) = .ok (.rdXThrxConfig 0x1234 0x5 0xA) ∧
    decode (.frame [0x85, 0x12, 0x34, 0x5A] : Code) = .ok (.rdYThrxConfig 0x1234 0x5 0xA) ∧
    decode (.frame [0x86, 0x12, 0x34, 0x5A] : Code) = .ok (.rdZThrxConfig 0x1234 0x5 0xA) ∧
    decode (.frame [0x87, 0x12, 0x34, 0x5A] : Code) = .ok (.rdTThrxConfig 0x1234 0x5 0xA) ∧
    decode (.frame [0x88, 0x12, 0x34, 0x5A] : Code) = .ok (.rdConvStatus 0x1234 0x5 0xA) ∧
    decode (.frame [0x89, 0x12, 0x34, 0x5A] : Code) = .ok (.rdXChResult 0x1234 0x5 0xA) ∧
    decode (.frame [0x8A, 0x12, 0x34, 0x5A] : Code) = .ok (.rdYChResult 0x1234 0x5 0xA) ∧
    decode (.frame [0x8B, 0x12, 0x34, 0x5A] : Code) = .ok (.rdZChResult 0x1234 0x5 0xA) ∧
    decode (.frame [0x8C, 0x12, 0x34, 0x5A] : Code) = .ok (.rdTempResult 0x1234 0x5 0xA) := by decide

/-- The same with bit 31 at 1, for 0x0D and above. -/
theorem test_decode_reads_high :
    decode (.frame [0x8D, 0x12, 0x34, 0x5A] : Code) = .ok (.rdAfeStatus 0x1234 0x5 0xA) ∧
    decode (.frame [0x8E, 0x12, 0x34, 0x5A] : Code) = .ok (.rdSysStatus 0x1234 0x5 0xA) ∧
    decode (.frame [0x8F, 0x12, 0x34, 0x5A] : Code) = .ok (.rdTestConfig 0x1234 0x5 0xA) ∧
    decode (.frame [0x90, 0x12, 0x34, 0x5A] : Code) = .ok (.rdOscMonitor 0x1234 0x5 0xA) ∧
    decode (.frame [0x91, 0x12, 0x34, 0x5A] : Code) = .ok (.rdMagGainConfig 0x1234 0x5 0xA) ∧
    decode (.frame [0x92, 0x12, 0x34, 0x5A] : Code) = .ok (.rdMagOffsetConfig 0x1234 0x5 0xA) ∧
    decode (.frame [0x93, 0x12, 0x34, 0x5A] : Code) = .ok (.rdAngleResult 0x1234 0x5 0xA) ∧
    decode (.frame [0x94, 0x12, 0x34, 0x5A] : Code) = .ok (.rdMagnitudeResult 0x1234 0x5 0xA) ∧
    decode (.frame [0x95, 0x12, 0x34, 0x5A] : Code) = .ok (.rdUnknown15 0x1234 0x5 0xA) ∧
    decode (.frame [0x97, 0x12, 0x34, 0x5A] : Code) = .ok (.rdUnknown16 0x17 0x1234 0x5 0xA) ∧
    decode (.frame [0x9F, 0x12, 0x34, 0x5A] : Code) = .ok (.rdUnknown18 0x1F 0x1234 0x5 0xA) ∧
    decode (.frame [0xBF, 0x12, 0x34, 0x5A] : Code) = .ok (.rdUnknown20 0x3F 0x1234 0x5 0xA) ∧
    decode (.frame [0xFF, 0x12, 0x34, 0x5A] : Code) = .ok (.rdUnknown40 0x7F 0x1234 0x5 0xA) := by decide

/-- Data type codes 0 to 7 (10_state.md R31). -/
theorem test_decode_dataTypes :
    decode (.dataType 0 : Code) = .ok .misoDefault ∧
    decode (.dataType 1 : Code) = .ok .misoXy ∧
    decode (.dataType 2 : Code) = .ok .misoXz ∧
    decode (.dataType 3 : Code) = .ok .misoZy ∧
    decode (.dataType 4 : Code) = .ok .misoXt ∧
    decode (.dataType 5 : Code) = .ok .misoYt ∧
    decode (.dataType 6 : Code) = .ok .misoZt ∧
    decode (.dataType 7 : Code) = .ok .misoAm := by decide

/-- Three and five bytes are no frame (20_memory.md R56). -/
theorem test_decode_refuses_lengths :
    decode (.frame [0x0F, 0x00, 0x04] : Code) = .error (.lengthError 3) ∧
    decode (.frame [0x0F, 0x00, 0x04, 0x07, 0x00] : Code) = .error (.lengthError 5) := by decide

/-- The encoder: `WR DEVICE_CONFIG, 0x5129` with its CRC is 0x00512901 (95_test_vectors.md P1), and
`RD X_CH_RESULT` with command 8 is 0x8900008E (V8). -/
theorem test_encode_frames :
    encode Stamp.unset (.wrDeviceConfig 0x5129 0x0 0x1) = .frame [0x00, 0x51, 0x29, 0x01] ∧
    encode Stamp.unset (.rdXChResult 0x0000 0x8 0xE) = .frame [0x89, 0x00, 0x00, 0x8E] := by decide

/-- The host's numbers: event kinds and data types as in spec/opcode_table.json, then a frame. -/
theorem test_tableWords :
    decodeTableWord 8 0 = some (.enable Stamp.unset) ∧ decodeTableWord 8 3 = some .reservedKind3 ∧
    decodeTableWord 8 5 = some .misoYt ∧ decodeTableWord 32 0x0F000407 = some (.wrTestConfig 0x0004 0x0 0x7) := by
  decide

/-- The configuration word of P1 is 0x0E000 (95_test_vectors.md section 3); code 7 is refused (D34). -/
theorem test_configWord :
    packConfig cfgV = 0x0E000 ∧ unpackConfig 0x0E000 = some cfgV ∧ unpackConfig 0x00038 = none := by decide

/-- CONV_EN alone is bit 12 and STAT8_EN alone bit 15; ranges 25, 100 and 300 mT are codes 1, 3 and 6
(10_state.md R32, R38). -/
theorem test_configWord_positions :
    packConfig { resetConfig with convEn := true } = 0x01000 ∧
    packConfig { resetConfig with stat8En := true } = 0x08000 ∧
    packConfig { resetConfig with dataType := .am, brX := .mT25, brY := .mT100, brZ := .mT300 } = 0x00CCF := by
  decide

/-! ## The first step after reset runs the placed word -/

theorem test_fetch_event : step (State.reset.withFetchWord 8 0) = exec (.enable Stamp.unset) (setOut none State.reset) := rfl

/-- A placed MOSI frame is the frame that the very next step finalizes. -/
theorem test_fetch_frame :
    ((after (step (State.reset.withFetchWord 32 0x0F000407))).out.map fun r => (r.mosiFrame, r.addr, r.regValue)) =
      some (some 0x0F000407, some 0x0F, some 0x0004) := by decide +kernel

/-- A placed data type is the mode that the very next step interprets a MISO frame in. Code 4 is XT. -/
theorem test_fetch_dataType :
    ((after (step ({ State.reset with bufMiso := cells [0x44, 0x80, 0x5D, 0x09], cntMiso := 4 }.withFetchWord 8 4))).out.map
      fun r => (r.ch1Val, r.ch2Val)) = some (some (-2035), some 1093) := by decide +kernel

/-! ## The CRC: 95_test_vectors.md section 2.2 -/

theorem test_crc_values :
    [0x00000000, 0x00000009, 0x0000000F, 0xFFFFFFF0, 0xFFFFFFFF, 0xFFFFFFFE, 0x80000000, 0x00000010, 0x0E000000, 0x8E000005, 0x89000000, 0x0F000400, 0x0F000407, 0x12345670, 0x12345674, 0xDEADBEE0, 0x0000FFF0, 0xAAAAAAA0, 0x55555550, 0x00512901, 0x0800000B, 0x15123408].map crc4Calc =
      [0x9, 0x9, 0x9, 0xE, 0xE, 0xE, 0xF, 0xC, 0x3, 0x5, 0x0, 0x7, 0x7, 0x4, 0x4, 0x1, 0x8, 0x2, 0x5, 0x1, 0xB, 0x8] := by decide +kernel

theorem test_crc_status :
    [0x00000000, 0x00000009, 0x0000000F, 0xFFFFFFF0, 0xFFFFFFFF, 0xFFFFFFFE, 0x80000000, 0x00000010, 0x0E000000, 0x8E000005, 0x89000000, 0x0F000400, 0x0F000407, 0x12345670, 0x12345674, 0xDEADBEE0, 0x0000FFF0, 0xAAAAAAA0, 0x55555550, 0x00512901, 0x0800000B, 0x15123408].map (fun f => (crcCheck f).status == .ok) =
      [false, true, false, false, false, true, false, false, false, true, true, false, true, false, true, false, false, false, false, true, true, true] := by decide +kernel

/-! ## Bit and byte utilities: 95_test_vectors.md section 2.3 -/

theorem test_maskedValue :
    maskedValue 0x8E12345A 24 0x7F = 0x0E ∧ maskedValue 0x8E12345A 8 0xFFFF = 0x1234 ∧
    maskedValue 0x8E12345A 4 0xF = 0x5 ∧ maskedValue 0xFFFFFFFF 32 0xFF = 0 := by decide

theorem test_bits :
    getBit 0x80000000 31 = 1 ∧ getBit 0x80000000 30 = 0 ∧
    (setBit 1 3 ||| setBit 0 2 ||| setBit 1 1 ||| setBit 1 0) = 0xB := by decide

theorem test_signExtend :
    signExtend 0x800 12 16 = some (-2048) ∧ signExtend 0x7FF 12 16 = some 2047 ∧
    signExtend 0x80 8 16 = some (-128) ∧ signExtend 0x40 7 16 = some (-64) ∧
    signExtend 0xFFFF 16 16 = some (-1) ∧ signExtend 1 1 16 = some (-1) ∧
    signExtend 0x1800 12 16 = some (-2048) ∧ signExtend 5 0 16 = none ∧ signExtend 5 12 0 = none ∧
    signExtend 5 12 8 = none := by decide

theorem test_bytesToU32be :
    bytesToU32be [0x0F, 0x00, 0x04, 0x07] 4 = some 0x0F000407 ∧ bytesToU32be [0x12, 0x34, 0x56] 3 = none ∧
    bytesToU32be [] 0 = none ∧ bytesToU32be [1, 2, 3, 4, 5] 5 = none := by decide

/-! ## Registers: 95_test_vectors.md section 2.4, the payload 0xA5C3 (0xA5C3 and the most negative value for
the signed ones), through the WR row and through the RD row -/

theorem test_wrDeviceConfig :
    rowSeen (.wrDeviceConfig 0xA5C3 0 0) (full cfgV 0 0) Record.fields = some (some
      [(.RSVD_15, 1), (.CONV_AVG, 2), (.RSVD_11_10, 1), (.MAG_TEMPCO, 1), (.RSVD_7, 1),
        (.OPERATING_MODE, 4), (.T_CH_EN, 0), (.T_RATE, 0), (.T_HLT_EN, 1), (.RSVD_0, 1)]) := by decide +kernel

theorem test_rdDeviceConfig :
    rowSeen (.rdDeviceConfig 0x0F0F 0 0) (full cfgV 0 0x00512900) Record.fields = some (some
      [(.RSVD_15, 0), (.CONV_AVG, 5), (.RSVD_11_10, 0), (.MAG_TEMPCO, 1), (.RSVD_7, 0),
        (.OPERATING_MODE, 2), (.T_CH_EN, 1), (.T_RATE, 0), (.T_HLT_EN, 0), (.RSVD_0, 1)]) := by decide +kernel

theorem test_wrSensorConfig :
    rowSeen (.wrSensorConfig 0xA5C3 0 0) (full cfgV 0 0) Record.fields = some (some
      [(.ANGLE_EN, 2), (.SLEEPTIME, 9), (.MAG_CH_EN, 7), (.Z_RANGE, 0), (.Y_RANGE, 0), (.X_RANGE, 3)]) := by decide +kernel

theorem test_rdSensorConfig :
    rowSeen (.rdSensorConfig 0x0F0F 0 0) (full cfgV 0 0x009A7500) Record.fields = some (some
      [(.ANGLE_EN, 2), (.SLEEPTIME, 6), (.MAG_CH_EN, 9), (.Z_RANGE, 3), (.Y_RANGE, 1), (.X_RANGE, 1)]) := by decide +kernel

theorem test_wrSystemConfig :
    rowSeen (.wrSystemConfig 0xA5C3 0 0) (full cfgV 0 0) Record.fields = some (some
      [(.RSVD_15_14, 2), (.DIAG_SEL, 2), (.RSVD_11, 0), (.TRIGGER_MODE, 2), (.DATA_TYPE, 7),
        (.DIAG_EN, 0), (.RSVD_4_3, 0), (.Z_HLT_EN, 0), (.Y_HLT_EN, 1), (.X_HLT_EN, 1)]) := by decide +kernel

theorem test_rdSystemConfig :
    rowSeen (.rdSystemConfig 0x0F0F 0 0) (full cfgV 0 0x00354500) Record.fields = some (some
      [(.RSVD_15_14, 0), (.DIAG_SEL, 3), (.RSVD_11, 0), (.TRIGGER_MODE, 2), (.DATA_TYPE, 5),
        (.DIAG_EN, 0), (.RSVD_4_3, 0), (.Z_HLT_EN, 1), (.Y_HLT_EN, 0), (.X_HLT_EN, 1)]) := by decide +kernel

theorem test_wrAlertConfig :
    rowSeen (.wrAlertConfig 0xA5C3 0 0) (full cfgV 0 0) Record.fields = some (some
      [(.RSVD_15_14, 2), (.ALERT_LATCH, 1), (.ALERT_MODE, 0), (.STATUS_ALRT, 0), (.RSVD_10_9, 2),
        (.RSLT_ALRT, 1), (.RSVD_7_6, 3), (.THRX_COUNT, 0), (.T_THRX_ALRT, 0), (.Z_THRX_ALRT, 0),
        (.Y_THRX_ALRT, 1), (.X_THRX_ALRT, 1)]) := by decide +kernel

theorem test_rdAlertConfig :
    rowSeen (.rdAlertConfig 0x0F0F 0 0) (full cfgV 0 0x00293F00) Record.fields = some (some
      [(.RSVD_15_14, 0), (.ALERT_LATCH, 1), (.ALERT_MODE, 0), (.STATUS_ALRT, 1), (.RSVD_10_9, 0),
        (.RSLT_ALRT, 1), (.RSVD_7_6, 0), (.THRX_COUNT, 3), (.T_THRX_ALRT, 1), (.Z_THRX_ALRT, 1),
        (.Y_THRX_ALRT, 1), (.X_THRX_ALRT, 1)]) := by decide +kernel

theorem test_wrXThrxConfig :
    rowSeen (.wrXThrxConfig 0xA5C3 0 0) (full cfgV 0 0) Record.fields = some (some
      [(.X_HI_THRESHOLD, -91), (.X_LO_THRESHOLD, -61)]) := by decide +kernel

theorem test_rdXThrxConfig :
    rowSeen (.rdXThrxConfig 0x0F0F 0 0) (full cfgV 0 0x007D8300) Record.fields = some (some
      [(.X_HI_THRESHOLD, 125), (.X_LO_THRESHOLD, -125)]) := by decide +kernel

theorem test_wrYThrxConfig :
    rowSeen (.wrYThrxConfig 0xA5C3 0 0) (full cfgV 0 0) Record.fields = some (some
      [(.Y_HI_THRESHOLD, -91), (.Y_LO_THRESHOLD, -61)]) := by decide +kernel

theorem test_rdYThrxConfig :
    rowSeen (.rdYThrxConfig 0x0F0F 0 0) (full cfgV 0 0x007D8300) Record.fields = some (some
      [(.Y_HI_THRESHOLD, 125), (.Y_LO_THRESHOLD, -125)]) := by decide +kernel

theorem test_wrZThrxConfig :
    rowSeen (.wrZThrxConfig 0xA5C3 0 0) (full cfgV 0 0) Record.fields = some (some
      [(.Z_HI_THRESHOLD, -91), (.Z_LO_THRESHOLD, -61)]) := by decide +kernel

theorem test_rdZThrxConfig :
    rowSeen (.rdZThrxConfig 0x0F0F 0 0) (full cfgV 0 0x0080FF00) Record.fields = some (some
      [(.Z_HI_THRESHOLD, -128), (.Z_LO_THRESHOLD, -1)]) := by decide +kernel

theorem test_wrTThrxConfig :
    rowSeen (.wrTThrxConfig 0xA5C3 0 0) (full cfgV 0 0) Record.fields = some (some
      [(.T_HI_THRESHOLD, 165), (.T_LO_THRESHOLD, 195)]) := by decide +kernel

theorem test_rdTThrxConfig :
    rowSeen (.rdTThrxConfig 0x0F0F 0 0) (full cfgV 0 0x00673200) Record.fields = some (some
      [(.T_HI_THRESHOLD, 103), (.T_LO_THRESHOLD, 50)]) := by decide +kernel

theorem test_wrConvStatus :
    rowSeen (.wrConvStatus 0xA5C3 0 0) (full cfgV 0 0) Record.fields = some (some
      [(.RSVD_15_14, 2), (.RDY, 1), (.A, 0), (.T, 0), (.Z, 1), (.Y, 0), (.X, 1), (.RSVD_7, 1),
        (.SET_COUNT, 4), (.RSVD_3_2, 0), (.ALRT_STATUS, 3)]) := by decide +kernel

theorem test_rdConvStatus :
    rowSeen (.rdConvStatus 0x0F0F 0 0) (full cfgV 0 0x003F5200) Record.fields = some (some
      [(.RSVD_15_14, 0), (.RDY, 1), (.A, 1), (.T, 1), (.Z, 1), (.Y, 1), (.X, 1), (.RSVD_7, 0),
        (.SET_COUNT, 5), (.RSVD_3_2, 0), (.ALRT_STATUS, 2)]) := by decide +kernel

theorem test_wrXChResult :
    rowSeen (.wrXChResult 0xA5C3 0 0) (full cfgV 0 0) Record.fields = some (some
      [(.X_CH_RESULT, -23101)]) := by decide +kernel

theorem test_rdXChResult :
    rowSeen (.rdXChResult 0x0F0F 0 0) (full cfgV 0 0x00800000) Record.fields = some (some
      [(.X_CH_RESULT, -32768)]) := by decide +kernel

theorem test_wrYChResult :
    rowSeen (.wrYChResult 0xA5C3 0 0) (full cfgV 0 0) Record.fields = some (some
      [(.Y_CH_RESULT, -23101)]) := by decide +kernel

theorem test_rdYChResult :
    rowSeen (.rdYChResult 0x0F0F 0 0) (full cfgV 0 0x007FFF00) Record.fields = some (some
      [(.Y_CH_RESULT, 32767)]) := by decide +kernel

theorem test_wrZChResult :
    rowSeen (.wrZChResult 0xA5C3 0 0) (full cfgV 0 0) Record.fields = some (some
      [(.Z_CH_RESULT, -23101)]) := by decide +kernel

theorem test_rdZChResult :
    rowSeen (.rdZChResult 0x0F0F 0 0) (full cfgV 0 0x00FFFF00) Record.fields = some (some
      [(.Z_CH_RESULT, -1)]) := by decide +kernel

theorem test_wrTempResult :
    rowSeen (.wrTempResult 0xA5C3 0 0) (full cfgV 0 0) Record.fields = some (some
      [(.TEMP_RESULT, 42435)]) := by decide +kernel

theorem test_rdTempResult :
    rowSeen (.rdTempResult 0x0F0F 0 0) (full cfgV 0 0x00447200) Record.fields = some (some
      [(.TEMP_RESULT, 17522)]) := by decide +kernel

theorem test_wrAfeStatus :
    rowSeen (.wrAfeStatus 0xA5C3 0 0) (full cfgV 0 0) Record.fields = some (some
      [(.CFG_RESET, 1), (.RSVD_14_13, 1), (.SENS_STAT, 0), (.TEMP_STAT, 0), (.ZHS_STAT, 1),
        (.YHS_STAT, 0), (.XHS_STAT, 1), (.RSVD_7_2, 48), (.TRIM_STAT, 1), (.LDO_STAT, 1)]) := by decide +kernel

theorem test_rdAfeStatus :
    rowSeen (.rdAfeStatus 0x0F0F 0 0) (full cfgV 0 0x00800000) Record.fields = some (some
      [(.CFG_RESET, 1), (.RSVD_14_13, 0), (.SENS_STAT, 0), (.TEMP_STAT, 0), (.ZHS_STAT, 0),
        (.YHS_STAT, 0), (.XHS_STAT, 0), (.RSVD_7_2, 0), (.TRIM_STAT, 0), (.LDO_STAT, 0)]) := by decide +kernel

theorem test_wrSysStatus :
    rowSeen (.wrSysStatus 0xA5C3 0 0) (full cfgV 0 0) Record.fields = some (some
      [(.ALRT_LVL, 1), (.ALRT_DRV, 0), (.SDO_DRV, 1), (.CRC_STAT, 0), (.FRAME_STAT, 0),
        (.OPERATING_STAT, 5), (.RSVD_7_6, 3), (.VCC_OV, 0), (.VCC_UV, 0), (.TEMP_THX, 0),
        (.ZCH_THX, 0), (.YCH_THX, 1), (.XCH_THX, 1)]) := by decide +kernel

theorem test_rdSysStatus :
    rowSeen (.rdSysStatus 0x0F0F 0 0) (full cfgV 0 0x009A3500) Record.fields = some (some
      [(.ALRT_LVL, 1), (.ALRT_DRV, 0), (.SDO_DRV, 0), (.CRC_STAT, 1), (.FRAME_STAT, 1),
        (.OPERATING_STAT, 2), (.RSVD_7_6, 0), (.VCC_OV, 1), (.VCC_UV, 1), (.TEMP_THX, 0),
        (.ZCH_THX, 1), (.YCH_THX, 0), (.XCH_THX, 1)]) := by decide +kernel

theorem test_wrTestConfig :
    rowSeen (.wrTestConfig 0xA5C3 0 0) (full cfgV 0 0) Record.fields = some (some
      [(.RSVD_15_6, 663), (.VER, 0), (.RSVD_3, 0), (.CRC_DIS, 0), (.OSC_CNT_CTL, 3)]) := by decide +kernel

theorem test_rdTestConfig :
    rowSeen (.rdTestConfig 0x0F0F 0 0) (full cfgV 0 0x00005400) Record.fields = some (some
      [(.RSVD_15_6, 1), (.VER, 1), (.RSVD_3, 0), (.CRC_DIS, 1), (.OSC_CNT_CTL, 0)]) := by decide +kernel

theorem test_wrOscMonitor :
    rowSeen (.wrOscMonitor 0xA5C3 0 0) (full cfgV 0 0) Record.fields = some (some
      [(.OSC_COUNT, 42435)]) := by decide +kernel

theorem test_rdOscMonitor :
    rowSeen (.rdOscMonitor 0x0F0F 0 0) (full cfgV 0 0x00123400) Record.fields = some (some
      [(.OSC_COUNT, 4660)]) := by decide +kernel

theorem test_wrMagGainConfig :
    rowSeen (.wrMagGainConfig 0xA5C3 0 0) (full cfgV 0 0) Record.fields = some (some
      [(.GAIN_SELECTION, 2), (.RSVD_13_11, 4), (.GAIN_VALUE, 1475)]) := by decide +kernel

theorem test_rdMagGainConfig :
    rowSeen (.rdMagGainConfig 0x0F0F 0 0) (full cfgV 0 0x00840000) Record.fields = some (some
      [(.GAIN_SELECTION, 2), (.RSVD_13_11, 0), (.GAIN_VALUE, 1024)]) := by decide +kernel

theorem test_wrMagOffsetConfig :
    rowSeen (.wrMagOffsetConfig 0xA5C3 0 0) (full cfgV 0 0) Record.fields = some (some
      [(.OFFSET_SELECTION, 2), (.OFFSET_VALUE1, -53), (.OFFSET_VALUE2, -61)]) := by decide +kernel

theorem test_rdMagOffsetConfig :
    rowSeen (.rdMagOffsetConfig 0x0F0F 0 0) (full cfgV 0 0x007F4000) Record.fields = some (some
      [(.OFFSET_SELECTION, 1), (.OFFSET_VALUE1, -2), (.OFFSET_VALUE2, -64)]) := by decide +kernel

theorem test_wrAngleResult :
    rowSeen (.wrAngleResult 0xA5C3 0 0) (full cfgV 0 0) Record.fields = some (some
      [(.RSVD_15_13, 5), (.ANGLE_RESULT, 1475)]) := by decide +kernel

theorem test_rdAngleResult :
    rowSeen (.rdAngleResult 0x0F0F 0 0) (full cfgV 0 0x00162800) Record.fields = some (some
      [(.RSVD_15_13, 0), (.ANGLE_RESULT, 5672)]) := by decide +kernel

theorem test_wrMagnitudeResult :
    rowSeen (.wrMagnitudeResult 0xA5C3 0 0) (full cfgV 0 0) Record.fields = some (some
      [(.RSVD_15_13, 5), (.MAGNITUDE_RESULT, 1475)]) := by decide +kernel

theorem test_rdMagnitudeResult :
    rowSeen (.rdMagnitudeResult 0x0F0F 0 0) (full cfgV 0 0x001FFF00) Record.fields = some (some
      [(.RSVD_15_13, 0), (.MAGNITUDE_RESULT, 8191)]) := by decide +kernel

/-- What an unknown address reports: the address, known is no, the payload, and no fields. -/
def unknownAs (a : Addr) (v : Half) (r : Record) : Bool :=
  r.addr == some a && r.regKnown == some false && r.regValue == some v && r.fields.isNone

/-- Both directions of each block: known is no, nothing is decoded (60_exceptions.md R242, V10, P5). -/
theorem test_unknown_writes :
    rowSeen (.wrUnknown15 0x1234 0 8) (full cfgV 0 0) (unknownAs 0x15 0x1234) = some true ∧
    rowSeen (.wrUnknown16 0x16 0x1234 0 8) (full cfgV 0 0) (unknownAs 0x16 0x1234) = some true ∧
    rowSeen (.wrUnknown18 0x18 0x1234 0 8) (full cfgV 0 0) (unknownAs 0x18 0x1234) = some true ∧
    rowSeen (.wrUnknown20 0x20 0x1234 0 8) (full cfgV 0 0) (unknownAs 0x20 0x1234) = some true ∧
    rowSeen (.wrUnknown40 0x7F 0x1234 0 8) (full cfgV 0 0) (unknownAs 0x7F 0x1234) = some true := by
  decide +kernel

theorem test_unknown_reads :
    rowSeen (.rdUnknown15 0x1234 0 8) (full cfgV 0 0x00ABCD00) (unknownAs 0x15 0xABCD) = some true ∧
    rowSeen (.rdUnknown16 0x17 0x1234 0 8) (full cfgV 0 0x00ABCD00) (unknownAs 0x17 0xABCD) = some true ∧
    rowSeen (.rdUnknown18 0x1F 0x1234 0 8) (full cfgV 0 0x00ABCD00) (unknownAs 0x1F 0xABCD) = some true ∧
    rowSeen (.rdUnknown20 0x3F 0x1234 0 8) (full cfgV 0 0x00ABCD00) (unknownAs 0x3F 0xABCD) = some true ∧
    rowSeen (.rdUnknown40 0x40 0x1234 0 8) (full cfgV 0 0x00ABCD00) (unknownAs 0x40 0xABCD) = some true := by
  decide +kernel

/-! ## Event rows: 95_test_vectors.md section 2.5 -/

/-- The state `(A, m, s, 10)` of that table, with the bytes 0x11, 0x22, ... on both sides. -/
def atA (c : DecoderConfig) (m s : Nat) : State :=
  { opened c defaultParams ([0x11, 0x22, 0x33, 0x44].take m) ([0x55, 0x66, 0x77, 0x88].take s) with
    tStart := ⟨10⟩, cntMosi := BitVec.ofNat 3 m, cntMiso := BitVec.ofNat 3 s }

def early : DecoderConfig := { cfgV with earlyFinalize := true }

theorem test_enable : seq (.enable ⟨10⟩) State.reset = ⟨.accumulating, 0, 0, ⟨10⟩, false⟩ := by decide

theorem test_enableRestart : seq (.enableRestart ⟨20⟩) (atA cfgV 3 3) = ⟨.accumulating, 0, 0, ⟨20⟩, false⟩ := by
  decide

theorem test_ignored :
    exec .resultIgnored State.reset = .next State.reset ∧ exec .disableIgnored State.reset = .next State.reset ∧
      exec .reservedKind3 (atA cfgV 2 3) = .next (atA cfgV 2 3) := ⟨rfl, rfl, rfl⟩

theorem test_result_counts :
    seq (.result ⟨11⟩ (some 0x0F) (some 0x12)) (atA cfgV 0 0) = ⟨.accumulating, 1, 1, ⟨10⟩, false⟩ ∧
    seq (.result ⟨11⟩ (some 0x33) none) (atA cfgV 2 2) = ⟨.accumulating, 3, 2, ⟨10⟩, false⟩ ∧
    seq (.result ⟨11⟩ none none) (atA cfgV 2 2) = ⟨.accumulating, 2, 2, ⟨10⟩, false⟩ ∧
    seq (.result ⟨11⟩ (some 0x55) (some 0x66)) (atA cfgV 4 4) = ⟨.accumulating, 5, 5, ⟨10⟩, false⟩ ∧
    seq (.result ⟨11⟩ (some 0x55) none) (atA cfgV 5 4) = ⟨.accumulating, 5, 4, ⟨10⟩, false⟩ := by decide

theorem test_result_stores :
    (after (exec (.result ⟨11⟩ (some 0x99) none) (atA cfgV 2 2))).bufMosi = [(0, 0x11), (1, 0x22), (2, 0x99)] ∧
    (after (exec (.result ⟨11⟩ (some 0x99) (some 0x99)) (atA cfgV 4 3))).bufMosi = (atA cfgV 4 3).bufMosi ∧
    (after (exec (.result ⟨11⟩ (some 0x99) (some 0x99)) (atA cfgV 4 3))).bufMiso =
      [(0, 0x55), (1, 0x66), (2, 0x77), (3, 0x99)] := by decide

theorem test_result_early :
    seq (.result ⟨14⟩ (some 0x07) (some 0x00)) (atA early 3 3) = ⟨.accumulating, 0, 0, ⟨14⟩, true⟩ ∧
    seq (.result ⟨14⟩ (some 0x07) (some 0x00)) (atA early 3 2) = ⟨.accumulating, 0, 0, ⟨14⟩, true⟩ ∧
    seq (.result ⟨14⟩ none none) (atA early 3 3) = ⟨.accumulating, 3, 3, ⟨10⟩, false⟩ := by decide +kernel

theorem test_disable_sequencing :
    seq (.disable ⟨30⟩) (atA cfgV 4 4) = ⟨.waitEnable, 0, 0, ⟨10⟩, true⟩ ∧
    seq (.disable ⟨30⟩) (atA cfgV 0 0) = ⟨.waitEnable, 0, 0, ⟨10⟩, true⟩ ∧
    seq (.disable ⟨30⟩) { atA cfgV 0 0 with params := { defaultParams with emptyFinalizeEmits := false } } = ⟨.waitEnable, 0, 0, ⟨10⟩, false⟩ := by decide +kernel

/-! ## Records: 95_test_vectors.md section 2.6 -/

def v1 : State := full { cfgV with dataType := .xt, brX := .mT300, convEn := true } 0x02010006 0x44805D09

theorem test_V1_mosi :
    seen v1 (fun r => (r.dir, r.addr, r.regValue, r.misoData, r.err)) =
      some (some .write, some 0x02, some 0x0100, none, 0) := by decide +kernel

theorem test_V1_miso :
    seen v1 (fun r => (r.ch1Raw, r.ch2Raw, r.stat8)) = some (some 0x80D, some 0x445, none) ∧
    seen v1 (fun r => (r.ch1Val, r.ch2Val)) = some (some (-2035), some 1093) ∧
    seen v1 (fun r => (r.ch1Unit, r.ch2Unit)) = some (some (-152625 / 512), some (733 / 30)) := by decide +kernel

theorem test_V2 :
    seen (full { cfgV with dataType := .am, convEn := true } 0x9300000F 0x40B1143A)
      (fun r => (r.regValue, r.ch1Val, r.stat, r.ch1Unit)) =
      some (none, some 2836, some 3, some (709 / 2)) := by decide +kernel

theorem test_V3 :
    seen (full cfgV 0x8E000005 0x009A3557) (fun r => (r.regValue, r.stat, r.cmd, r.stat8, r.err)) =
      some (some 0x9A35, some 5, some 0, some 0, 0) := by decide +kernel

theorem test_V4 :
    seen (opened cfgV defaultParams [0x8E, 0x00, 0x00, 0x05] [0x00, 0x9A])
      (fun r => (r.lenErrMiso, r.regKnown, r.regValue, r.cmd, r.err)) =
      some (true, some true, none, some 0, 2) := by decide +kernel

theorem test_V6 :
    seen (full { cfgV with convEn := true } 0x0767320F 0x00000009) (fun r => (r.thrHiUnit, r.thrLoUnit, r.err)) =
      some (some 172, some (-53), 0) := by decide +kernel

theorem test_V7 :
    seen (full { cfgV with crcCheckEn := false, statNibbleEn := false, stat8En := false } 0x0F000400 0xFFFFFFFF)
      (fun r => (r.mosiCrc, r.cmd, r.stat, r.err)) = some (none, none, none, 0) := by decide +kernel

theorem test_V7b :
    seen (full cfgV 0x0F000400 0xFFFFFFFF) (fun r => (r.mosiCrc, r.misoCrc, r.stat, r.stat8, r.err)) =
      some (some { status := .error, calculated := 7, fromBus := 0 },
        some { status := .error, calculated := 0xE, fromBus := 0xF }, some 7, some 0xFF, 0x0C) := by decide +kernel

theorem test_V8 :
    seen (full cfgV 0x8900008E 0x00800013) (fun r => (r.cmd, r.stat, r.errBit)) = some (some 8, some 1, some true) ∧
    seen { full cfgV 0x8900008E 0x00800013 with params := { defaultParams with errorBitSource := .miso } }
      (fun r => (r.cmd, r.stat, r.errBit)) = some (some 8, some 1, some false) := by decide +kernel

theorem test_V9 :
    seen (full { cfgV with brX := .mT50, brY := .mT25, brZ := .mT300 } 0x057D830F 0x00000009)
      (fun r => (r.thrHiUnit, r.thrLoUnit)) = some (some (3125 / 128), some (-3125 / 128)) ∧
    seen { full { cfgV with brX := .mT50, brY := .mT25, brZ := .mT300 } 0x057D830F 0x00000009 with
        params := { defaultParams with threshRangeSharedX := true } }
      (fun r => (r.thrHiUnit, r.thrLoUnit)) = some (some (3125 / 64), some (-3125 / 64)) := by decide +kernel

theorem test_V12 :
    seen (full { cfgV with dataType := .zy, brZ := .mT25 } 0x8B000009 0x1234560C)
      (fun r => (r.ch1Val, r.ch2Val, r.ch1Unit, r.ch2Unit)) =
      some (some 838, some 293, some (10475 / 1024), none) := by decide +kernel

theorem test_V13 : seen (opened cfgV defaultParams [] []) (fun r => (r.lenErrMosi, r.lenErrMiso, r.err)) =
    some (true, true, 3) := by decide +kernel

/-! ## Mode rows: 95_test_vectors.md section 2.7 -/

theorem test_misoDefault :
    rowSeen .misoDefault (full cfgV 0 0xC80000F8) (fun r => (r.misoData, r.stat8, r.ch1Raw)) =
      some (some 0x0000, some 0xC8, none) := by decide +kernel

/-- Which of the two columns of the table applies to which mode, on the row `0x44805D00`. -/
theorem test_miso_extensions :
    [Instr.misoXy, .misoXz, .misoZy, .misoXt, .misoYt, .misoZt, .misoAm].map
        (fun i => rowSeen i (full cfgV 0 0x44805D00) fun r => (r.ch1Val, r.ch2Val)) =
      [some (some (-2035), some 1093), some (some (-2035), some 1093), some (some (-2035), some 1093),
       some (some (-2035), some 1093), some (some (-2035), some 1093), some (some (-2035), some 1093),
       some (some 2061, some 1093)] ∧
    [Instr.misoXy, .misoXz, .misoZy, .misoXt, .misoYt, .misoZt, .misoAm].map
        (fun i => rowSeen i (full cfgV 0 0x807F0F00) fun r => (r.ch1Val, r.ch2Val)) =
      [some (some 2047, some (-2048)), some (some 2047, some (-2048)), some (some 2047, some (-2048)),
       some (some 2047, some 2048), some (some 2047, some 2048), some (some 2047, some 2048),
       some (some 2047, some 2048)] := by decide +kernel

/-- Which axis each channel takes its range from: X 25, Y 50, Z 100, raw value -2048 on both channels
(`mag12(-2048, 2)` is -50). -/
theorem test_miso_axes :
    [Instr.misoXy, .misoXz, .misoZy, .misoXt, .misoYt, .misoZt, .misoAm].map
        (fun i => rowSeen i (full { cfgV with brX := .mT25, brY := .mT50, brZ := .mT100 } 0 0x80800000) fun r =>
          (r.ch1Unit, r.ch2Unit)) =
      [some (some (-25), some (-50)), some (some (-25), some (-100)), some (some (-100), some (-50)),
       some (some (-25), none), some (some (-50), none), some (some (-100), none), some (none, none)] := by
  decide +kernel

/-! ## Unit conversion: 95_test_vectors.md section 2.9 -/

def on : DecoderConfig := { cfgV with convEn := true }

theorem test_temperatures :
    temp16 on 17522 = some 25 ∧ temp16 on 0 = some (-8011 / 30) ∧ temp16 on 65535 = some (49513 / 60) ∧
    temp12 on 1093 = some (733 / 30) ∧ temp12 on 4095 = some (24749 / 30) ∧
    tempThr on 90 103 172 = some (116529 / 1000) ∧ tempThr on 0 50 (-53) = some (-5327 / 20) ∧
    temp16 cfgV 0 = none := by decide +kernel

theorem test_magnetic :
    mag16 32767 .mT150 = some (2457525 / 16384) ∧ mag16 (-32768) .mT150 = some (-150) ∧
    mag16 (-1) .mT25 = some (-25 / 32768) ∧ mag12 2047 .mT50 = some (51175 / 1024) ∧
    mag12 838 .mT300 = some (31425 / 256) ∧ magThr (-128) .mT300 = some (-300) ∧
    magThr 127 .mT25 = some (3175 / 128) ∧ mag16 5 .notSelected = none := by decide +kernel

/-- The full-scale value of each range: `mag12(-2048, range)` is minus the range (45_unit_conversion.md R224,
R226). -/
theorem test_ranges :
    [BrRange.notSelected, .mT25, .mT50, .mT100, .mT75, .mT150, .mT300].map (mag12 (-2048)) =
      [none, some (-25), some (-50), some (-100), some (-75), some (-150), some (-300)] := by decide +kernel

theorem test_angles :
    angle16 on 0x1628 = some (709 / 2) ∧ angle16 on 0x0114 = some (69 / 4) ∧ angle16 on 0x1680 = some 360 ∧
    angle16 on 0xFFFF = some (8191 / 16) ∧ angle16 on 0xF628 = some (709 / 2) ∧
    angle12 on 0xB14 = some (709 / 2) ∧ angle12 on 0xFFF = some (4095 / 8) := by decide +kernel

/-- `stat8` 0xC8: previous CRC, configuration reset and ready X (95_test_vectors.md section 2.8). -/
theorem test_stat8Flags :
    stat8Flags 0xC8 =
      { previousCrc := true, configReset := true, alertHigh := false, alertLow := false, readyX := true,
        readyY := false, readyZ := false, readyT := false } := by decide

/-! ## Witnesses: the hypotheses of each statement can be met -/

/-- Two frames in an open transaction: `WR TEST_CONFIG` and a regular MISO frame. -/
def w : State := full cfgV 0x0F000407 0x00FFF457

/-- The same transaction in a mode with two channels. -/
def wXt : State := full { cfgV with dataType := .xt } 0x8F000003 0x00FFF457

/-- An event kind by kind. -/
def ev (k : BitVec 2) : Event := plainEvent k ⟨5⟩

theorem test_hyp_DecodeOfEncode : (.wrUnknown16 0x16 0 0 0 : Instr).wellFormed = true ∧
    (.rdUnknown40 0x7F 0xFFFF 0xF 0xF : Instr).wellFormed = true := by decide

theorem test_hyp_OnlyFourBytes : (3 : Nat) ≠ 4 ∧ ([] : List Byte).length ≠ 4 := by decide

theorem test_hyp_EventRows : (ev 0).kind = 0 ∧ (ev 1).kind = 1 ∧ (ev 2).kind = 2 ∧ (ev 3).kind = 3 := by decide

theorem test_hyp_ConfigurationWord : unpackConfig 0x0E000 = some cfgV := by decide

theorem test_hyp_StepRunsTheDecodedEvent :
    { w with inbox := [.event (ev 2)] }.inbox = .event (ev 2) :: [] := rfl

theorem test_hyp_FinalizeRunsTheDecodedRows :
    suppressed w = false ∧ frameOf .mosi w = some 0x0F000407 ∧ frameOf .miso w = some 0x00FFF457 ∧
    suppressed State.reset = false ∧ frameOf .mosi State.reset = none ∧ frameOf .miso State.reset = none := by
  decide

theorem test_hyp_StepsWithoutAnEvent :
    State.reset.inbox = [] ∧ { w with inbox := [.construct cfgV] }.inbox = .construct cfgV :: [] := ⟨rfl, rfl⟩

theorem test_hyp_IgnoredEvents : (.reservedKind3 : Instr) ∈ [Instr.resultIgnored, .disableIgnored, .reservedKind3] := by
  decide

theorem test_hyp_ResultOnlyAppends :
    (atA cfgV 3 3).cfg.earlyFinalize = false ∧
    (appendBoth (some 1) none (atA early 2 3)).cntMosi ≠ 4 ∧
      (appendBoth (some 1) none (atA early 2 3)).cntMiso ≠ 4 := by decide

/-- Counters 3, 4 and 5 are the boundaries of the clauses. -/
theorem test_hyp_AppendStoresAtTheCounter :
    (atA cfgV 3 4).cntMosi.toNat < 4 ∧ ¬ (atA cfgV 3 4).cntMiso.toNat < 4 ∧ ¬ (atA cfgV 5 4).cntMosi.toNat < 4 := by
  decide

theorem test_hyp_EarlyFinalize :
    (atA early 3 3).cfg.earlyFinalize = true ∧
      (appendBoth (some 7) none (atA early 3 3)).cntMosi = 4 ∧
      (appendBoth none (some 7) (atA early 2 3)).cntMiso = 4 := by decide

theorem test_hyp_DisableEmits :
    ¬ (w.params.emptyFinalizeEmits = false ∧ w.cntMosi = 0 ∧ w.cntMiso = 0) := by decide

/-- An empty transaction with the parameter false. -/
def wSilent : State := { opened cfgV { defaultParams with emptyFinalizeEmits := false } [] [] with tStart := ⟨3⟩ }

theorem test_hyp_EmptyDisable :
    wSilent.params.emptyFinalizeEmits = false ∧ wSilent.cntMosi = 0 ∧ wSilent.cntMiso = 0 := by decide

/-- WriteRows, ReadRows and RowsWithoutARecord: with and without a record being assembled. -/
theorem test_hyp_Rows : (begun w).out = some (beginRecord ⟨1⟩ w) ∧ State.reset.out = none := ⟨rfl, rfl⟩

/-- The statements about register fields and register annotations: the default table, a record, the regular mode and a MISO frame. -/
theorem test_hyp_RegisterFields :
    (begun w).params.regmap = defaultRegmap ∧ (begun w).out = some (beginRecord ⟨1⟩ w) ∧
      (begun w).cfg.dataType = .default ∧ (beginRecord ⟨1⟩ w).misoFrame = some 0x00FFF457 := ⟨rfl, rfl, rfl, rfl⟩

/-- The mode statements: a record with and one without a MISO frame. -/
theorem test_hyp_ModeRows :
    (begun wXt).out = some (beginRecord ⟨1⟩ wXt) ∧ (beginRecord ⟨1⟩ wXt).misoFrame = some 0x00FFF457 ∧
      (begun State.reset).out = some (beginRecord ⟨1⟩ State.reset) ∧
      (beginRecord ⟨1⟩ State.reset).misoFrame = none := ⟨rfl, rfl, rfl, rfl⟩

/-- The magnetic range: both ends of the raw values. -/
theorem test_hyp_MagneticField :
    brMT .mT150 = some 150 ∧ mag16 (-32768) .mT150 = some (-150) ∧ mag16 32767 .mT150 = some (2457525 / 16384) := by
  decide +kernel

/-- EveryRecordSatisfiesTheTable, DirectionAndAddressComeFromMosi, UnpackSlicesEveryField: a step that produces a
record, with a frame on each side. -/
theorem test_hyp_EveryRecord :
    ∃ t r, step { w with inbox := [.event (ev 2)] } = .next t ∧ t.out = some r ∧
      r.mosiFrame = some 0x0F000407 := ⟨_, _, rfl, rfl, by decide⟩

/-- The same with no frame on either side. -/
theorem test_hyp_EveryRecord_empty :
    ∃ t r, step { opened cfgV defaultParams [] [] with inbox := [.event (ev 2)] } = .next t ∧ t.out = some r ∧
      r.mosiFrame = none := ⟨_, _, rfl, rfl, by decide⟩

theorem test_hyp_UnknownAddress :
    frameOf .mosi (full cfgV 0x15123408 0) = some 0x15123408 ∧
      0x14 < ((0x15123408 : Frame).extractLsb' 24 7).toNat := by decide

/-- LengthErrorMarksItsSideOnly and TwoLengthErrorsLeaveAnEmptyRecord: the clauses at counters 3, 4 and 5. -/
theorem test_hyp_LengthError :
    (∃ t r, exec (.disable ⟨1⟩) (atA cfgV 3 5) = .next t ∧ t.out = some r) ∧ suppressed (atA cfgV 3 5) = false ∧
      (atA cfgV 3 5).cntMosi ≠ 4 ∧ (atA cfgV 3 5).cntMiso ≠ 4 ∧ (atA cfgV 4 4).cntMosi = 4 ∧
      (atA cfgV 4 4).cntMiso = 4 ∧ suppressed (atA cfgV 4 4) = false :=
  ⟨⟨_, _, rfl, rfl⟩, by decide, by decide, by decide, by decide, by decide, by decide⟩

/-- The other error bit source. -/
theorem test_hyp_LengthError_source :
    (atA cfgV 3 5).params.errorBitSource = .mosi ∧
      { atA cfgV 3 5 with params := { defaultParams with errorBitSource := .miso } }.params.errorBitSource = .miso ∧
      ∃ t r, exec (.disable ⟨1⟩) { atA cfgV 3 5 with params := { defaultParams with errorBitSource := .miso } } =
        .next t ∧ t.out = some r := ⟨rfl, rfl, _, _, rfl, rfl⟩

theorem test_hyp_LengthError_full :
    ∃ t r, exec (.disable ⟨1⟩) (atA cfgV 4 4) = .next t ∧ t.out = some r := ⟨_, _, rfl, rfl⟩

/-- Two states that share the MISO side and differ in the MOSI side, and the converse. -/
def wMosi : State := full cfgV 0x8E000005 0x00FFF457
def wMiso : State := opened cfgV defaultParams [0x0F, 0x00, 0x04, 0x07] [0x00]

theorem test_hyp_MisoIndependent :
    w.cfg = wMosi.cfg ∧ w.params = wMosi.params ∧ w.bufMiso = wMosi.bufMiso ∧ w.cntMiso = wMosi.cntMiso ∧
      suppressed w = false ∧ suppressed wMosi = false ∧
      ∃ t t' r r', exec (.disable ⟨1⟩) w = .next t ∧ exec (.disable ⟨2⟩) wMosi = .next t' ∧ t.out = some r ∧
        t'.out = some r' := ⟨rfl, rfl, rfl, rfl, rfl, rfl, _, _, _, _, rfl, rfl, rfl, rfl⟩

theorem test_hyp_MosiIndependent :
    w.cfg = wMiso.cfg ∧ w.params = wMiso.params ∧ w.bufMosi = wMiso.bufMosi ∧ w.cntMosi = wMiso.cntMosi ∧
      suppressed w = false ∧ suppressed wMiso = false ∧
      ∃ t t' r r', exec (.disable ⟨1⟩) w = .next t ∧ exec (.disable ⟨2⟩) wMiso = .next t' ∧ t.out = some r ∧
        t'.out = some r' ∧ r.dir = some .write :=
  ⟨rfl, rfl, rfl, rfl, rfl, rfl, _, _, _, _, rfl, rfl, rfl, rfl, by decide⟩

/-- A read with a short MISO side. -/
def wShortRead : State := opened cfgV defaultParams [0x8E, 0x00, 0x00, 0x05] [0x00]

theorem test_hyp_MosiIndependent_read :
    wShortRead.cntMiso ≠ 4 ∧ seen wShortRead (fun r => (r.dir, r.regValue)) = some (some .read, none) := by
  decide +kernel

/-- A read in a special mode, both frames there (45_unit_conversion.md R230): `RD X_CH_RESULT` with a range
for X has no register annotation. -/
def wModeRead : State := full { cfgV with dataType := .xt, brX := .mT50 } 0x89000000 0x00FFF457

theorem test_hyp_MosiIndependent_mode :
    wModeRead.cfg.dataType ≠ .default ∧
      seen wModeRead (fun r => (r.dir, r.regValue, r.regUnit)) = some (some .read, none, none) := by
  decide +kernel

/-- RecordDependsOnlyOnItsOwnBytes: two states that differ in the state of the machine, the start time and the
inputs only. -/
def wLater : State := { w with fsm := .waitEnable, tStart := ⟨99⟩, inbox := [.event (ev 2)] }

theorem test_hyp_OwnBytes :
    w.cfg = wLater.cfg ∧ w.params = wLater.params ∧ w.cntMosi = wLater.cntMosi ∧ w.cntMiso = wLater.cntMiso ∧
      (∀ i, i < w.cntMosi.toNat → w.bufMosi.read i = wLater.bufMosi.read i) ∧
      (∀ i, i < w.cntMiso.toNat → w.bufMiso.read i = wLater.bufMiso.read i) :=
  ⟨rfl, rfl, rfl, rfl, fun _ _ => rfl, fun _ _ => rfl⟩

/-- TimestampsAreOpaque has no hypothesis. Over the natural numbers, a DISABLE at 9 reports the record of the
transaction opened at 5. -/
theorem test_stepOver_nat :
    (match stepOver (TS := Nat)
        { w.relabel (fun _ => 5) with inbox := [.event (plainEvent 2 9)] } with
      | .next t => t.out.map fun r => (r.tStart, r.tEnd, r.mosiFrame)
      | _ => none) = some (5, 9, some 0x0F000407) := by decide +kernel

theorem test_hyp_EnableForgets :
    (ev 0).kind = 0 ∧ { w with inbox := [.event (ev 0)] }.inbox = .event (ev 0) :: [] ∧
      { wMosi with fsm := .waitEnable, tStart := (⟨9⟩ : Stamp), inbox := [.event (ev 0)] }.inbox = .event (ev 0) :: [] ∧
      w.cfg = wMosi.cfg ∧ w.params = wMosi.params := ⟨rfl, rfl, rfl, rfl, rfl⟩

theorem test_hyp_CrcCheck :
    ∃ t t', exec (.disable ⟨1⟩) w = .next t ∧
      exec (.disable ⟨1⟩) { w with cfg := { w.cfg with crcCheckEn := false } } = .next t' := ⟨_, _, rfl, rfl⟩

theorem test_hyp_Annotations :
    ∃ t t', exec (.disable ⟨1⟩) w = .next t ∧
      exec (.disable ⟨1⟩) { w with cfg := { w.cfg with brX := .mT25, brY := .mT50, brZ := .mT75, convEn := true } } =
        .next t' := ⟨_, _, rfl, rfl⟩

/-- The invariant holds of a state in the middle of a transaction, with one more event to take. -/
theorem test_hyp_Invariant :
    State.Inv { atA cfgV 3 2 with inbox := [.event (resultEvent (⟨1⟩ : Stamp) (some 7) none)] } ∧
      ∃ t, step { atA cfgV 3 2 with inbox := [.event (resultEvent (⟨1⟩ : Stamp) (some 7) none)] } = .next t :=
  ⟨⟨by decide, by decide, by decide, by decide, by decide, by decide⟩, _, rfl⟩

theorem test_hyp_ConfigurationNeverChanges :
    { w with inbox := [.event (ev 2)] }.inbox = .event (ev 2) :: [] ∧
      ∃ t, step { w with inbox := [.event (ev 2)] } = .next t := ⟨rfl, _, rfl⟩

theorem test_hyp_FramesAreBigEndian :
    w.count .mosi = 4 ∧ (w.buffer .mosi).read 0 = some 0x0F ∧ (w.buffer .mosi).read 1 = some 0x00 ∧
      (w.buffer .mosi).read 2 = some 0x04 ∧ (w.buffer .mosi).read 3 = some 0x07 := by decide

theorem test_hyp_Transaction :
    { State.reset with inbox := xfer ⟨100⟩ ⟨200⟩ 0x00512901 0x0800000B }.cfg.earlyFinalize = false ∧
      { State.reset with inbox := xfer ⟨100⟩ ⟨200⟩ 0x00512901 0x0800000B }.inbox =
        xfer ⟨100⟩ ⟨200⟩ 0x00512901 0x0800000B ++ [] := ⟨rfl, rfl⟩

/-- The same with the policy on, under both values of the parameter. -/
theorem test_hyp_Transaction_early :
    { State.reset with cfg := early, inbox := xfer ⟨100⟩ ⟨200⟩ 0x00512901 0x0800000B }.cfg.earlyFinalize = true ∧
      State.reset.params.emptyFinalizeEmits = true ∧ wSilent.params.emptyFinalizeEmits = false ∧
      { wSilent with cfg := early, inbox := xfer ⟨100⟩ ⟨200⟩ 0x00512901 0x0800000B }.inbox =
        xfer ⟨100⟩ ⟨200⟩ 0x00512901 0x0800000B ++ [] := ⟨rfl, rfl, rfl, rfl⟩

theorem test_hyp_MaskedValue : (0xFFFFFFFF : Nat) < 2 ^ 32 := by decide

/-- The contract's boundary, and the ends of the range of a 7-bit field. -/
theorem test_hyp_SignExtend :
    ((0 : Int) ≤ 0 ∨ (16 : Int) ≤ 0 ∨ (16 : Int) < 0) ∧ (1 ≤ 7 ∧ 7 ≤ 16 ∧ -(2 ^ (7 - 1)) ≤ (-64 : Int)) ∧
      (63 : Int) < 2 ^ (7 - 1) ∧ signExtend 0x40 7 16 = some (-64) := by decide

/-- The last known address and the first unknown one. -/
theorem test_hyp_Unpack : (0x14 : Addr).toNat ≤ 0x14 ∧ 0x14 < (0x15 : Addr).toNat := by decide

end Sys2Proof.Tests
end

section
/-! The statements about memory (20_memory.md): what an event does to the state, and frame assembly. -/

namespace Sys2Proof.Machine

variable {TS : Type}

/-! ## What an event does -/

@[simp] theorem appendBoth_cfg (mosi miso : Option Byte) (s : State TS) :
    (appendBoth mosi miso s).cfg = s.cfg := by
  obtain ⟨-, -, hcfg, -⟩ := appendBoth_frame mosi miso s
  exact hcfg

@[simp] theorem appendBoth_params (mosi miso : Option Byte) (s : State TS) :
    (appendBoth mosi miso s).params = s.params := by
  obtain ⟨-, -, -, hparams, -⟩ := appendBoth_frame mosi miso s
  exact hparams

/-- The state after the appends of an event: a side whose valid bit is 0 delivers no byte
(30_encoding.md R71). -/
def receive (ev : Event) (s : State) : State :=
  appendBoth (if ev.mosiValid then some ev.mosi else none) (if ev.misoValid then some ev.miso else none) s

@[simp] theorem receive_cfg (ev : Event) (s : State) : (receive ev s).cfg = s.cfg := appendBoth_cfg ..
@[simp] theorem receive_params (ev : Event) (s : State) : (receive ev s).params = s.params :=
  appendBoth_params ..

/-- Everything that an event can do to a state it is taken from, with the condition of each case
(43_frame_assembler.md R160 to R168). -/
inductive EventEffect (ev : Event) (s : State) : State → Prop
  | opens (kind : ev.kind = 0) : EventEffect ev s (setOut none (openAt ev.ts s))
  | ignored (idle : ev.kind ≠ 0 ∧ s.fsm = .waitEnable ∨ ev.kind = 3) : EventEffect ev s (setOut none s)
  | accumulates (kind : ev.kind = 1) (busy : s.fsm = .accumulating) (quiet : firesEarly (receive ev s) = false) :
      EventEffect ev s (setOut none { receive ev s with fsm := .accumulating })
  | finalizesEarly (kind : ev.kind = 1) (busy : s.fsm = .accumulating) (fires : firesEarly (receive ev s) = true) :
      EventEffect ev s (openAt ev.ts (setOut (some (recordOf ev.ts (receive ev s))) (receive ev s)))
  | finalizes (kind : ev.kind = 2) (busy : s.fsm = .accumulating) (emits : suppressed s = false) :
      EventEffect ev s (close (setOut (some (recordOf ev.ts s)) s))
  | closesSilently (kind : ev.kind = 2) (busy : s.fsm = .accumulating) (silent : suppressed s = true) :
      EventEffect ev s (setOut none (close s))

/-- The row that an event selects has the effect of the event. -/
theorem exec_decodeEvent (ev : Event) (s : State) :
    ∃ t, exec (decodeEvent s.fsm ev) s = .next t ∧ EventEffect ev s t := by
  have kind_eq (k : BitVec 2) (h : ev.kind.toNat = k.toNat) : ev.kind = k := BitVec.eq_of_toNat_eq h
  unfold decodeEvent
  split
  case h_1 hk _ => exact ⟨_, rfl, .opens (kind_eq 0 hk)⟩
  case h_2 hk _ => exact ⟨_, rfl, .opens (kind_eq 0 hk)⟩
  case h_3 hk hf => exact ⟨_, rfl, .ignored (.inl ⟨by simp [kind_eq 1 hk], hf⟩)⟩
  case h_4 hk hf =>
    cases h : firesEarly (receive ev s) with
    | true => exact ⟨_, execResult_fires _ _ _ _ h, .finalizesEarly (kind_eq 1 hk) hf h⟩
    | false => exact ⟨_, execResult_quiet _ _ _ _ h, .accumulates (kind_eq 1 hk) hf h⟩
  case h_5 hk hf => exact ⟨_, rfl, .ignored (.inl ⟨by simp [kind_eq 2 hk], hf⟩)⟩
  case h_6 hk hf =>
    cases h : suppressed s with
    | true => exact ⟨_, execDisable_suppressed _ _ h, .closesSilently (kind_eq 2 hk) hf h⟩
    | false => exact ⟨_, execDisable_emits _ _ h, .finalizes (kind_eq 2 hk) hf h⟩
  case h_7 h0w h0a h1w h1a h2w h2a =>
    have kind_ne (k : Nat) (hw : ev.kind.toNat = k → s.fsm = .waitEnable → False)
        (ha : ev.kind.toNat = k → s.fsm = .accumulating → False) : ev.kind.toNat ≠ k := by
      intro hk
      cases hf : s.fsm with
      | waitEnable => exact hw hk hf
      | accumulating => exact ha hk hf
    have h0 := kind_ne 0 h0w h0a
    have h1 := kind_ne 1 h1w h1a
    have h2 := kind_ne 2 h2w h2a
    have h3 : ev.kind = 3 := by bv_omega
    exact ⟨_, rfl, .ignored (.inr h3)⟩

/-- A step on an event has the effect of that event on the state with the input taken. -/
theorem EventEffect.of_step {s t : State} {ev : Event} {rest : List Input} (hin : s.inbox = .event ev :: rest)
    (hstep : step s = .next t) : EventEffect ev { s with inbox := rest } t := by
  obtain ⟨u, hexec, heffect⟩ := exec_decodeEvent ev { s with inbox := rest }
  have hstep' : step s = exec (decodeEvent s.fsm ev) { s with inbox := rest } := by rw [step_eq, hin]
  cases hexec.symm.trans (hstep'.symm.trans hstep)
  exact heffect

/-- In no case does an event touch the configuration or the parameters. -/
theorem EventEffect.keeps_constants {ev : Event} {s t : State} (h : EventEffect ev s t) :
    t.cfg = s.cfg ∧ t.params = s.params := by
  cases h with
  | opens => exact ⟨rfl, rfl⟩
  | ignored => exact ⟨rfl, rfl⟩
  | accumulates => exact ⟨receive_cfg ev s, receive_params ev s⟩
  | finalizesEarly => exact ⟨receive_cfg ev s, receive_params ev s⟩
  | finalizes => exact ⟨rfl, rfl⟩
  | closesSilently => exact ⟨rfl, rfl⟩

/-- Settles O48: by the cases of what an event can do. -/
theorem configurationAndTableNeverChange : Obligations.ConfigurationAndTableNeverChange := by
  intro s t ev rest hin hstep
  exact (EventEffect.of_step hin hstep).keeps_constants

/-! ## Frame assembly -/

/-- The number of a frame is big-endian in its bytes (20_memory.md R54). -/
theorem toNat_frameOfBytes (b0 b1 b2 b3 : Byte) :
    (frameOfBytes b0 b1 b2 b3).toNat = b0.toNat * 2 ^ 24 + b1.toNat * 2 ^ 16 + b2.toNat * 2 ^ 8 + b3.toNat := by
  have append_byte {w : Nat} (x : BitVec w) (b : Byte) : (x ++ b).toNat = x.toNat * 2 ^ 8 + b.toNat := by
    rw [BitVec.toNat_append, ← Nat.shiftLeft_add_eq_or_of_lt b.isLt, Nat.shiftLeft_eq]
  simp only [frameOfBytes, append_byte]
  omega

/-- The four slices of a frame are its bytes, the first one in bits 31:24 (20_memory.md R54). -/
theorem extractLsb'_frameOfBytes (b0 b1 b2 b3 : Byte) :
    (frameOfBytes b0 b1 b2 b3).extractLsb' 24 8 = b0 ∧ (frameOfBytes b0 b1 b2 b3).extractLsb' 16 8 = b1 ∧
      (frameOfBytes b0 b1 b2 b3).extractLsb' 8 8 = b2 ∧ (frameOfBytes b0 b1 b2 b3).extractLsb' 0 8 = b3 := by
  refine ⟨?_, ?_, ?_, ?_⟩ <;> apply BitVec.eq_of_toNat_eq <;>
    rw [BitVec.extractLsb'_toNat, toNat_frameOfBytes, Nat.shiftRight_eq_div_pow] <;> omega

theorem frameOf_isSome_iff (side : Side) (s : State TS) :
    (frameOf side s).isSome = true ↔ s.count side = 4 := by
  rw [frameOf_isSome, decide_eq_true_iff]
  exact BitVec.toNat_inj (y := 4)

theorem cell_of_read {s : State TS} {side : Side} {i : Nat} {b : Byte} (h : (s.buffer side).read i = some b) :
    cell s side i = b := by rw [cell, h]; rfl

/-- Four stored bytes with the counter at 4 assemble to their frame. -/
theorem frameOf_of_reads {s : State TS} {side : Side} {b0 b1 b2 b3 : Byte} (hcount : s.count side = 4)
    (h0 : (s.buffer side).read 0 = some b0) (h1 : (s.buffer side).read 1 = some b1)
    (h2 : (s.buffer side).read 2 = some b2) (h3 : (s.buffer side).read 3 = some b3) :
    frameOf side s = some (frameOfBytes b0 b1 b2 b3) := by
  rw [frameOf_eq, hcount, cell_of_read h0, cell_of_read h1, cell_of_read h2, cell_of_read h3]
  rfl

/-- Frame assembly reads nothing but the buffer and the counter of its side (43_frame_assembler.md R172). -/
theorem frameOf_congr {s s' : State TS} {side : Side} (hbuffer : s.buffer side = s'.buffer side)
    (hcount : s.count side = s'.count side) : frameOf side s = frameOf side s' := by
  simp only [frameOf_eq, cell, hbuffer, hcount]

/-- Settles O49: the counter decides, the bytes are in big-endian order, and nothing else is read. -/
theorem framesAreBigEndian : Obligations.FramesAreBigEndian := by
  intro TS s side
  refine ⟨frameOf_isSome_iff side s, ?_, fun s' => frameOf_congr⟩
  intro b0 b1 b2 b3 hcount h0 h1 h2 h3
  exact ⟨frameOfBytes b0 b1 b2 b3, frameOf_of_reads hcount h0 h1 h2 h3, toNat_frameOfBytes b0 b1 b2 b3,
    extractLsb'_frameOfBytes b0 b1 b2 b3⟩

end Sys2Proof.Machine
end

section
/-! The statements about the bit and byte utilities (40_bit_utilities.md). -/

namespace Sys2Proof.Machine

variable {TS : Type}

/-! ## Bytes as a frame -/

/-- The declared length decides on its own: other than 4, there is no value (40_bit_utilities.md R104). -/
theorem bytesToU32be_of_len_ne (b : List Byte) {len : Nat} (h : len ≠ 4) : bytesToU32be b len = none :=
  if_neg h

@[simp] theorem bytesToU32be_four (b0 b1 b2 b3 : Byte) :
    bytesToU32be [b0, b1, b2, b3] 4 = some (frameOfBytes b0 b1 b2 b3) := rfl

@[simp] theorem decode_frame_four (b0 b1 b2 b3 : Byte) :
    decode (.frame [b0, b1, b2, b3] : Code TS) = .ok (decodeMosi (frameOfBytes b0 b1 b2 b3)) := rfl

/-- Bytes of another length miss the decoder's four-byte case (20_memory.md R56). -/
theorem decode_frame_of_length_ne {bytes : List Byte} (h : bytes.length ≠ 4) :
    decode (.frame bytes : Code TS) = .error (.lengthError bytes.length) := by
  have not_four : ∀ b0 b1 b2 b3 : Byte, bytes = [b0, b1, b2, b3] → False := by
    rintro b0 b1 b2 b3 rfl
    exact h rfl
  rw [decode]
  exact not_four

/-- Settles O3: four bytes are one frame for both readers, and the length alone refuses the rest. -/
theorem onlyFourBytesAreAFrame : Obligations.OnlyFourBytesAreAFrame := by
  refine ⟨fun b _ => bytesToU32be_of_len_ne b, ?_, fun _ => decode_frame_of_length_ne⟩
  intro b0 b1 b2 b3
  exact ⟨frameOfBytes b0 b1 b2 b3, bytesToU32be_four b0 b1 b2 b3, toNat_frameOfBytes b0 b1 b2 b3,
    decode_frame_four b0 b1 b2 b3⟩

/-! ## The masked value -/

/-- A mask of `w` ones takes the slice of `w` bits from `lo` on (40_bit_utilities.md R100, R7). -/
theorem maskedValue_ones (v lo w : Nat) : maskedValue v lo (2 ^ w - 1) = v / 2 ^ lo % 2 ^ w := by
  rw [maskedValue, Nat.and_two_pow_sub_one_eq_mod, Nat.shiftRight_eq_div_pow]

/-- The shift alone already discards every bit of a value below the position. -/
theorem maskedValue_of_lt {v position : Nat} (mask : Nat) (h : v < 2 ^ position) :
    maskedValue v position mask = 0 := by
  rw [maskedValue, Nat.shiftRight_eq_div_pow, Nat.div_eq_of_lt h, Nat.zero_and]

@[simp] theorem maskedValue_zero_mask (v position : Nat) : maskedValue v position 0 = 0 := Nat.and_zero _

/-- Settles O55: the slice, the definition, and the two ways to get 0. -/
theorem maskedValueIsTheSlice : Obligations.MaskedValueIsTheSlice :=
  ⟨maskedValue_ones, fun _ _ _ => rfl, fun _ _ mask => maskedValue_of_lt mask, maskedValue_zero_mask⟩

end Sys2Proof.Machine
end

section
/-! The statements about the CRC-4 engine (41_crc4.md). -/

namespace Sys2Proof.Machine

/-! ## The recurrence -/

/-- The iterations for the bits below `n` are the fold of one iteration over those positions, most significant
first (41_crc4.md R111). -/
theorem crcBits_eq_foldl (p : Frame) (n : Nat) (r : BitVec 4) :
    crcBits p n r = (List.range n).reverse.foldl (fun r i => crcStep (p.getLsbD i) r) r := by
  induction n generalizing r with
  | zero => rfl
  | succ n ih =>
    rw [List.range_succ, List.reverse_concat, List.foldl_cons]
    exact ih (crcStep (p.getLsbD n) r)

/-! ## The payload -/

/-- Zeroing the low four bits again changes nothing (41_crc4.md R110). -/
@[simp] theorem crcPayload_crcPayload (f : Frame) : crcPayload (crcPayload f) = crcPayload f := by
  rw [crcPayload, crcPayload, BitVec.and_assoc, BitVec.and_self]

/-- The low four bits of the frame have no influence (41_crc4.md R111). -/
@[simp] theorem crc4Calc_crcPayload (f : Frame) : crc4Calc (crcPayload f) = crc4Calc f := by
  rw [crc4Calc, crcPayload_crcPayload, crc4Calc]

/-- Settles O51: the model's recursion is the fold, the payload of a payload is itself, and the three values
are computed. -/
theorem crcIsTheRecurrence : Obligations.CrcIsTheRecurrence := by
  refine ⟨fun f => ⟨?recurrence, ?lowBits⟩, ?allZero, ?allOnes, ?workedExample⟩
  case recurrence => exact crcBits_eq_foldl (crcPayload f) 32 0xF
  case lowBits => exact (crc4Calc_crcPayload f).symm
  case allZero | allOnes | workedExample => simp [crc4Calc, crcPayload, crcBits, crcStep]

end Sys2Proof.Machine
end

section
/-! The statements about the register table and the bitfield unpacker (42_register_map.md). -/

namespace Sys2Proof.Machine

variable {TS : Type}

/-! ## The lookup -/

/-- Up to `0x14` the address is the index (42_register_map.md R121). -/
theorem lookup_of_le (m : RegMap) {a : Addr} (h : a.toNat ≤ 0x14) : lookup m a = some (m[a.toNat]'(by omega)) :=
  dif_pos h

/-- Above `0x14` there is no register (42_register_map.md R121). -/
theorem lookup_of_gt (m : RegMap) {a : Addr} (h : 0x14 < a.toNat) : lookup m a = none :=
  dif_neg (Nat.not_le.mpr h)

/-! ## A field -/

/-- The number under a mask of `w` ones is the slice of the word (40_bit_utilities.md R100, R105). -/
theorem maskedValue_toNat {n : Nat} (v : BitVec n) (lsb w : Nat) :
    maskedValue v.toNat lsb (2 ^ w - 1) = (v.extractLsb' lsb w).toNat := by
  rw [maskedValue_ones, BitVec.extractLsb'_toNat, Nat.shiftRight_eq_div_pow]

/-- The bit that `sign_extend` tests is the sign bit (40_bit_utilities.md R103). -/
theorem getBit_last {w : Nat} (x : BitVec w) : getBit x.toNat (w - 1) = x.msb.toNat := by
  rw [BitVec.msb_eq_getLsbD_last, BitVec.getLsbD, Nat.toNat_testBit, getBit, Nat.and_one_is_mod,
    Nat.shiftRight_eq_div_pow]

/-- In contract, sign extension of a word's number is its two's complement value (40_bit_utilities.md R103). -/
theorem signExtend_toNat {w : Nat} (x : BitVec w) {n : Int} (hpos : 1 ≤ w) (hle : (w : Int) ≤ n) :
    signExtend x.toNat w n = some x.toInt := by
  have in_contract : ¬ ((w : Int) ≤ 0 ∨ n ≤ 0 ∨ n < w) := by omega
  have no_excess : x.toNat % 2 ^ w = x.toNat := Nat.mod_eq_of_lt x.isLt
  rw [signExtend, if_neg in_contract]
  simp only [Int.toNat_natCast, no_excess, getBit_last, BitVec.toInt_eq_msb_cond]
  cases x.msb <;> simp

/-- A field is its slice of the register, in two's complement when signed (42_register_map.md R122, R123). -/
theorem field_eq (v : Half) (lsb w : Nat) (signed : Bool) (h : 1 ≤ w ∧ lsb + w ≤ 16) :
    field v lsb w signed h =
      if signed then (v.extractLsb' lsb w).toInt else ((v.extractLsb' lsb w).toNat : Int) := by
  obtain ⟨hpos, hfits⟩ := h
  have extended : signExtend (v.extractLsb' lsb w).toNat w 16 = some (v.extractLsb' lsb w).toInt :=
    signExtend_toNat _ hpos (by omega)
  simp only [field, maskedValue_toNat, extended, Option.get_some]

/-! ## The record of a step -/

/-- A step that leaves a record on the output port has finalized a state with the configuration and the
parameters of the one it started from. -/
theorem step_out_eq_recordOf {s t : State} {r : Record} (hstep : step s = .next t) (hout : t.out = some r) :
    ∃ ts u, r = recordOf ts u ∧ u.cfg = s.cfg ∧ u.params = s.params := by
  match hin : s.inbox with
  | [] | .construct _ :: _ =>
    rw [step_eq, hin] at hstep
    cases hstep
    cases hout
  | .event ev :: rest =>
    cases EventEffect.of_step hin hstep with
    | opens | ignored | accumulates | closesSilently => cases hout
    | finalizesEarly =>
      cases hout
      exact ⟨ev.ts, _, rfl, receive_cfg ev _, receive_params ev _⟩
    | finalizes =>
      cases hout
      exact ⟨ev.ts, _, rfl, rfl, rfl⟩

/-! ## The fields of a record -/

/-- The mode-dependent part is the regular format or one of the channel pairs (44_mode_decoders.md R190). -/
theorem modePart_cases (c : DecoderConfig) :
    (modePart c : Record TS → Record TS) = decodeRegular c ∨
      ∃ q1 q2, (modePart c : Record TS → Record TS) = decodePair c q1 q2 := by
  unfold modePart
  cases modeChannels c.dataType with
  | none => exact .inl rfl
  | some q => exact .inr ⟨q.1, q.2, rfl⟩

/-- What the mode-dependent part leaves of the MOSI side (44_mode_decoders.md R191 to R198). -/
theorem modePart_register (c : DecoderConfig) (r : Record TS) :
    (modePart c r).addr = r.addr ∧ (modePart c r).regValue = r.regValue ∧ (modePart c r).fields = r.fields := by
  obtain regular | ⟨q1, q2, pair⟩ := modePart_cases (TS := TS) c
  · rw [regular, decodeRegular]
    split <;> exact ⟨rfl, rfl, rfl⟩
  · rw [pair, decodePair]
    split <;> exact ⟨rfl, rfl, rfl⟩

/-- The fields of a record are its payload, unpacked by the register at its address (43_frame_assembler.md
R176). -/
def FieldsUnpacked (m : RegMap) (r : Record TS) : Prop :=
  r.fields = r.addr.bind fun a => unpackedFields m a r.regValue

/-- Fields that are unpacked are there exactly when the payload is and the address is known. -/
theorem FieldsUnpacked.fields_eq_some_iff {m : RegMap} {r : Record TS} (h : FieldsUnpacked m r)
    (fs : List (FieldName × Int)) :
    r.fields = some fs ↔
      ∃ a v d, r.addr = some a ∧ r.regValue = some v ∧ lookup m a = some d ∧ fs = unpack d v := by
  rw [h]
  simp only [unpackedFields_eq, Option.bind_eq_some_iff, Option.map_eq_some_iff]
  constructor
  · rintro ⟨a, ha, v, hv, d, hd, rfl⟩
    exact ⟨a, v, d, ha, hv, hd, rfl⟩
  · rintro ⟨a, v, d, ha, hv, hd, rfl⟩
    exact ⟨a, ha, v, hv, d, hd, rfl⟩

theorem fieldsUnpacked_beginRecord (m : RegMap) (ts1 : TS) (s : State TS) :
    FieldsUnpacked m (beginRecord ts1 s) := rfl

theorem fieldsUnpacked_mosiPart (c : DecoderConfig) (p : Params) (f : Frame) (r : Record TS) :
    FieldsUnpacked p.regmap (mosiPart c p f r) := rfl

theorem fieldsUnpacked_modePart {m : RegMap} {r : Record TS} (c : DecoderConfig) (h : FieldsUnpacked m r) :
    FieldsUnpacked m (modePart c r) := by
  obtain ⟨haddr, hvalue, hfields⟩ := modePart_register c r
  rw [FieldsUnpacked, haddr, hvalue, hfields]
  exact h

theorem fieldsUnpacked_closeRecord {m : RegMap} {r : Record TS} (h : FieldsUnpacked m r) :
    FieldsUnpacked m (closeRecord r) := h

/-- Only the MOSI side assigns the fields of a finalize, and it unpacks them. -/
theorem fieldsUnpacked_recordOf (ts1 : TS) (s : State TS) : FieldsUnpacked s.params.regmap (recordOf ts1 s) := by
  unfold recordOf
  cases frameOf .mosi s with
  | none =>
    have mosi := fieldsUnpacked_beginRecord s.params.regmap ts1 s
    cases frameOf .miso s with
    | none => exact fieldsUnpacked_closeRecord mosi
    | some _ => exact fieldsUnpacked_closeRecord (fieldsUnpacked_modePart s.cfg mosi)
  | some f =>
    have mosi := fieldsUnpacked_mosiPart s.cfg s.params f (beginRecord ts1 s)
    cases frameOf .miso s with
    | none => exact fieldsUnpacked_closeRecord mosi
    | some _ => exact fieldsUnpacked_closeRecord (fieldsUnpacked_modePart s.cfg mosi)

/-- Settles O57: the lookup by its bound, the unpacking field by field, and the fields of a record by what each
part of finalize does to them. -/
theorem unpackSlicesEveryField : Obligations.UnpackSlicesEveryField := by
  refine ⟨fun m a => ⟨fun h => lookup_of_le m h, fun h => lookup_of_gt m h⟩, ?unpacked, ?ofStep⟩
  case unpacked =>
    intro d v
    simp only [unpack, field_eq]
  case ofStep =>
    intro s t r hstep hout
    obtain ⟨ts, u, rfl, -, hparams⟩ := step_out_eq_recordOf hstep hout
    rw [← hparams]
    exact (fieldsUnpacked_recordOf ts u).fields_eq_some_iff

end Sys2Proof.Machine
end

section
/-! The statements about the frame assembler (43_frame_assembler.md). -/

namespace Sys2Proof.Machine

variable {TS : Type}

/-! ## ENABLE in WAIT_ENABLE -/

/-- In WAIT_ENABLE the kind alone selects ENABLE, whatever bytes the event carries (30_encoding.md R71). -/
theorem decodeEvent_waitEnable_of_kind_zero {ev : Event TS} (h : ev.kind = 0) :
    decodeEvent .waitEnable ev = .enable ev.ts := by
  unfold decodeEvent
  rw [h]
  rfl

theorem exec_enable (ts : Stamp) (s : State) : exec (.enable ts) s = .next (setOut none (openAt ts s)) := rfl

/-- An open transaction without a record: what is written and, by the rest of the state, what is not. -/
theorem setOut_none_openAt (ts : TS) (s : State TS) :
    setOut none (openAt ts s) =
      { s with
        fsm := .accumulating, bufMosi := [], cntMosi := 0, bufMiso := [], cntMiso := 0, tStart := ts
        out := none } := rfl

/-- Settles O12: the kind selects the row, and the row opens the transaction. -/
theorem enableOpensATransaction : Obligations.EnableOpensATransaction := by
  refine ⟨fun ev => decodeEvent_waitEnable_of_kind_zero, fun s ts => ?_⟩
  rw [exec_enable, setOut_none_openAt]

/-! ## The MOSI side of a record -/

/-- A frame is put together again from its five fields (30_encoding.md R72). -/
theorem mosiFrameOf_fields (m : Frame) :
    mosiFrameOf (mosiRw m) (mosiAddr m) (mosiData m) (mosiCmd m) (mosiCrc m) = m := by
  have rw_bit : BitVec.ofBool (mosiRw m) = m.extractLsb' 31 1 := by
    ext i hi
    obtain rfl : i = 0 := by omega
    simp [mosiRw]
  have join (hi n lo w : Nat) (adjacent : hi = lo + w) :
      m.extractLsb' hi n ++ m.extractLsb' lo w = m.extractLsb' lo (n + w) :=
    BitVec.extractLsb'_append_extractLsb'_eq_extractLsb' adjacent
  calc mosiFrameOf (mosiRw m) (mosiAddr m) (mosiData m) (mosiCmd m) (mosiCrc m)
      = m.extractLsb' 31 1 ++ m.extractLsb' 24 7 ++ m.extractLsb' 8 16 ++ m.extractLsb' 4 4 ++ m.extractLsb' 0 4 := by
        rw [← rw_bit]; rfl
    _ = m.extractLsb' 0 32 := by rw [join 31 1 24 7 rfl, join 24 _ 8 16 rfl, join 8 _ 4 4 rfl, join 4 _ 0 4 rfl]
    _ = m := BitVec.extractLsb'_eq_self

theorem dirOf_beq_read (m : Frame) : (dirOf m == .read) = mosiRw m := by
  unfold dirOf
  cases mosiRw m <;> rfl

/-- The direction, the address and the MOSI data of a record are slices of its MOSI frame, and absent without
it (43_frame_assembler.md R173, R174). -/
structure HeaderFromMosi (r : Record TS) : Prop where
  dir : r.dir = r.mosiFrame.map dirOf
  addr : r.addr = r.mosiFrame.map mosiAddr
  regKnown : r.regKnown = r.mosiFrame.map fun m => decide ((mosiAddr m).toNat ≤ 0x14)
  mosiData : r.mosiData = r.mosiFrame.map mosiData

theorem headerFromMosi_beginRecord (ts1 : TS) (s : State TS) : HeaderFromMosi (beginRecord ts1 s) :=
  ⟨rfl, rfl, rfl, rfl⟩

@[simp] theorem mosiPart_mosiFrame (c : DecoderConfig) (p : Params) (m : Frame) (r : Record TS) :
    (mosiPart c p m r).mosiFrame = some m := by
  rw [mosiPart, decodeMosiSide_mosiFrame, dirOf_beq_read, mosiFrameOf_fields]

theorem headerFromMosi_mosiPart (c : DecoderConfig) (p : Params) (m : Frame) (r : Record TS) :
    HeaderFromMosi (mosiPart c p m r) where
  dir := by rw [mosiPart_mosiFrame]; rfl
  addr := by rw [mosiPart_mosiFrame]; rfl
  regKnown := by
    rw [mosiPart_mosiFrame, mosiPart, decodeMosiSide_regKnown, lookup_isSome]
    rfl
  mosiData := by rw [mosiPart_mosiFrame]; rfl

/-- The mode-dependent part assigns nothing of the MOSI side (44_mode_decoders.md R191 to R198). -/
theorem headerFromMosi_modePart (c : DecoderConfig) {r : Record TS} (h : HeaderFromMosi r) :
    HeaderFromMosi (modePart c r) := by
  obtain ⟨hdir, haddr, hknown, hdata⟩ := h
  obtain regular | ⟨q1, q2, pair⟩ := modePart_cases (TS := TS) c
  · rw [regular, decodeRegular]
    split <;> exact ⟨hdir, haddr, hknown, hdata⟩
  · rw [pair, decodePair]
    split <;> exact ⟨hdir, haddr, hknown, hdata⟩

theorem headerFromMosi_closeRecord {r : Record TS} (h : HeaderFromMosi r) : HeaderFromMosi (closeRecord r) := by
  obtain ⟨hdir, haddr, hknown, hdata⟩ := h
  exact ⟨hdir, haddr, hknown, hdata⟩

/-- A property of the record that finalize begins, with the MOSI side or without, holds of the record it ends
with, when the mode-dependent part and the error vector keep it (43_frame_assembler.md R171). -/
theorem recordOf_induction {P : Record TS → Prop} {ts1 : TS} {s : State TS} (begun : P (beginRecord ts1 s))
    (mosi : ∀ m, P (mosiPart s.cfg s.params m (beginRecord ts1 s))) (mode : ∀ r, P r → P (modePart s.cfg r))
    (closed : ∀ r, P r → P (closeRecord r)) : P (recordOf ts1 s) := by
  unfold recordOf
  apply closed
  cases frameOf .mosi s with
  | none =>
    cases frameOf .miso s with
    | none => exact begun
    | some _ => exact mode _ begun
  | some m =>
    cases frameOf .miso s with
    | none => exact mosi m
    | some _ => exact mode _ (mosi m)

theorem headerFromMosi_recordOf (ts1 : TS) (s : State TS) : HeaderFromMosi (recordOf ts1 s) :=
  recordOf_induction (headerFromMosi_beginRecord ts1 s) (fun m => headerFromMosi_mosiPart s.cfg s.params m _)
    (fun _ => headerFromMosi_modePart s.cfg) (fun _ => headerFromMosi_closeRecord)

/-- Settles O37: a record of a step is the record of a finalize, whose MOSI side is sliced from the frame. -/
theorem directionAndAddressComeFromMosi : Obligations.DirectionAndAddressComeFromMosi := by
  intro s t r hstep hout
  obtain ⟨ts, u, rfl, -, -⟩ := step_out_eq_recordOf hstep hout
  obtain ⟨hdir, haddr, hknown, hdata⟩ := headerFromMosi_recordOf ts u
  refine ⟨fun frame => ?absent, fun m frame => ?present⟩
  case absent | present =>
    rw [frame] at hdir haddr hknown hdata
    exact ⟨hdir, haddr, hknown, hdata⟩

/-! ## What a finalize depends on -/

/-- Frame assembly reads the counter of its side and the cells below it (43_frame_assembler.md R172). -/
theorem frameOf_congr_below {s s' : State TS} {side : Side} (hcount : s.count side = s'.count side)
    (hcells : ∀ i, i < (s.count side).toNat → (s.buffer side).read i = (s'.buffer side).read i) :
    frameOf side s = frameOf side s' := by
  rw [frameOf_eq, frameOf_eq, ← hcount]
  split
  case isTrue full =>
    have cell_eq (i : Nat) (hi : i < 4) : cell s side i = cell s' side i := by
      rw [cell, cell, hcells i (full ▸ hi)]
    rw [cell_eq 0, cell_eq 1, cell_eq 2, cell_eq 3] <;> decide
  case isFalse => rfl

section
variable {US : Type} (f : TS → US)

theorem beginRecord_relabel (ts1 : TS) (s : State TS) :
    beginRecord (f ts1) (s.relabel f) = (beginRecord ts1 s).relabel f := by
  simp only [beginRecord, frameOf_relabel]
  rfl

theorem mosiPart_relabel (c : DecoderConfig) (p : Params) (m : Frame) (r : Record TS) :
    mosiPart c p m (r.relabel f) = (mosiPart c p m r).relabel f := rfl

theorem modePart_relabel (c : DecoderConfig) (r : Record TS) :
    modePart c (r.relabel f) = (modePart c r).relabel f := by
  unfold modePart
  cases modeChannels c.dataType with
  | none =>
    simp only [decodeRegular, record_relabel_misoFrame]
    cases r.misoFrame <;> rfl
  | some q =>
    simp only [decodePair, record_relabel_misoFrame]
    cases r.misoFrame <;> rfl

theorem closeRecord_relabel (r : Record TS) : closeRecord (r.relabel f) = (closeRecord r).relabel f := rfl

/-- Finalize passes the two timestamps through and looks at neither (43_frame_assembler.md R178, D4). -/
theorem recordOf_relabel (ts1 : TS) (s : State TS) :
    recordOf (f ts1) (s.relabel f) = (recordOf ts1 s).relabel f := by
  simp only [recordOf, frameOf_relabel, relabel_cfg, relabel_params, beginRecord_relabel]
  cases frameOf .mosi s <;> cases frameOf .miso s <;>
    simp only [mosiPart_relabel, modePart_relabel, closeRecord_relabel]

end

/-- The record of a finalize is a function of the latch, the configuration, the parameters and the two
frames. -/
theorem recordOf_congr {ts1 : TS} {s s' : State TS} (hstart : s.tStart = s'.tStart) (hcfg : s.cfg = s'.cfg)
    (hparams : s.params = s'.params) (hmosi : frameOf .mosi s = frameOf .mosi s')
    (hmiso : frameOf .miso s = frameOf .miso s') : recordOf ts1 s = recordOf ts1 s' := by
  simp only [recordOf, beginRecord, hstart, hcfg, hparams, hmosi, hmiso]

/-- Timestamps apart, the latch and the time of the finalize drop out. -/
theorem recordOf_withoutTimes_congr {ts ts' : TS} {s s' : State TS} (hcfg : s.cfg = s'.cfg)
    (hparams : s.params = s'.params) (hmosi : frameOf .mosi s = frameOf .mosi s')
    (hmiso : frameOf .miso s = frameOf .miso s') :
    (recordOf ts s).withoutTimes = (recordOf ts' s').withoutTimes := by
  calc (recordOf ts s).withoutTimes
      = recordOf () (s.relabel fun _ => ()) := (recordOf_relabel _ ts s).symm
    _ = recordOf () (s'.relabel fun _ => ()) :=
        recordOf_congr rfl hcfg hparams (by rwa [frameOf_relabel, frameOf_relabel])
          (by rwa [frameOf_relabel, frameOf_relabel])
    _ = (recordOf ts' s').withoutTimes := recordOf_relabel _ ts' s'

/-- Settles O43: the bytes below the counters fix the two frames, and these the record but for its times. -/
theorem recordDependsOnlyOnItsOwnBytes : Obligations.RecordDependsOnlyOnItsOwnBytes := by
  intro TS s s' ts ts' hcfg hparams hcntMosi hcntMiso hmosi hmiso
  refine ⟨_, _, recordOf ts s, recordOf ts' s', finalize_eq ts s, finalize_eq ts' s', rfl, rfl, ?_⟩
  have mosi_frame : frameOf .mosi s = frameOf .mosi s' := frameOf_congr_below hcntMosi hmosi
  have miso_frame : frameOf .miso s = frameOf .miso s' := frameOf_congr_below hcntMiso hmiso
  exact recordOf_withoutTimes_congr hcfg hparams mosi_frame miso_frame

end Sys2Proof.Machine
end

section
/-! The statements about the physical-unit converters (45_unit_conversion.md). -/

namespace Sys2Proof.Machine

/-! ## The angles -/

/-- The degrees are the nine bits from bit 4 on, the sixteenths the four bits below (45_unit_conversion.md
R228). -/
theorem angle16_eq (c : DecoderConfig) (v : Half) :
    angle16 c v = if c.convEn then
      some (((v.toNat / 16 % 512 : Nat) : Q) + ((v.toNat % 16 : Nat) : Q) / 16) else none := by
  have degrees : maskedValue v.toNat 4 0x1FF = v.toNat / 16 % 512 := maskedValue_ones v.toNat 4 9
  have sixteenths : maskedValue v.toNat 0 0xF = v.toNat % 16 := by
    simpa using maskedValue_ones v.toNat 0 4
  rw [angle16, degrees, sixteenths]

/-- Both slices lie in bits 12:0, so bits 15:13 do not count (45_unit_conversion.md R228). -/
theorem angle16_and_low13 (c : DecoderConfig) (v : Half) : angle16 c (v &&& 0x1FFF#16) = angle16 c v := by
  have low13 : (v &&& 0x1FFF#16).toNat = v.toNat % 2 ^ 13 := Nat.and_two_pow_sub_one_eq_mod v.toNat 13
  have degrees : v.toNat % 2 ^ 13 / 16 % 512 = v.toNat / 16 % 512 := by omega
  have sixteenths : v.toNat % 2 ^ 13 % 16 = v.toNat % 16 := by omega
  rw [angle16_eq, angle16_eq, low13, degrees, sixteenths]

/-- The degrees are the nine bits from bit 3 on, the eighths the three bits below (45_unit_conversion.md
R229). -/
theorem angle12_eq (c : DecoderConfig) (w : BitVec 12) :
    angle12 c w = if c.convEn then
      some (((w.toNat / 8 % 512 : Nat) : Q) + ((w.toNat % 8 : Nat) : Q) / 8) else none := by
  have degrees : maskedValue w.toNat 3 0x1FF = w.toNat / 8 % 512 := maskedValue_ones w.toNat 3 9
  have eighths : maskedValue w.toNat 0 0x7 = w.toNat % 8 := by
    simpa using maskedValue_ones w.toNat 0 3
  rw [angle12, degrees, eighths]

/-- Settles O34: the temperature is its formula by definition; the angles are slices of the raw value, and
bits 15:13 lie in neither slice of the 16-bit one. -/
theorem temperatureAndAngleFormulas : Obligations.TemperatureAndAngleFormulas :=
  fun c v w => ⟨rfl, angle16_eq c v, angle16_and_low13 c v, angle12_eq c w⟩

/-! ## The magnetic field -/

/-- The converters' ranges are the ranges by name (45_unit_conversion.md R224). -/
theorem brMT_eq_rangeMilliTesla (b : BrRange) : brMT b = rangeMilliTesla b := by cases b <;> rfl

/-- Only the unselected range has no value (45_unit_conversion.md R224). -/
theorem rangeMilliTesla_eq_none_iff (b : BrRange) : rangeMilliTesla b = none ↔ b = .notSelected := by
  cases b <;> simp [rangeMilliTesla]

/-- A selected range is a positive number of millitesla (45_unit_conversion.md R224). -/
theorem rangeMilliTesla_pos {b : BrRange} {br : Q} (h : rangeMilliTesla b = some br) : 0 < br := by
  cases b with
  | notSelected => cases h
  | mT25 | mT50 | mT100 | mT75 | mT150 | mT300 =>
    obtain rfl := Option.some.inj h
    norm_num

/-- The field is the selected range scaled by the raw value (45_unit_conversion.md R225). -/
theorem mag16_eq (raw : Int) (b : BrRange) :
    mag16 raw b = (rangeMilliTesla b).map fun br => (raw : Q) * 2 * br / 65536 := by
  rw [mag16, brMT_eq_rangeMilliTesla]

/-- The field has no value exactly without a range (45_unit_conversion.md R225). -/
theorem mag16_eq_none_iff (raw : Int) (b : BrRange) : mag16 raw b = none ↔ b = .notSelected := by
  rw [mag16_eq, Option.map_eq_none_iff, rangeMilliTesla_eq_none_iff]

/-- A signed 16-bit value scales a range to within that range (45_unit_conversion.md R225). -/
theorem scaled_mem_range {raw : Int} {br : Q} (nonneg : 0 ≤ br) (lower : -32768 ≤ raw) (upper : raw ≤ 32767) :
    -br ≤ (raw : Q) * 2 * br / 65536 ∧ (raw : Q) * 2 * br / 65536 ≤ br * 32767 / 32768 := by
  have lower_scaled : -32768 * br ≤ raw * br :=
    mul_le_mul_of_nonneg_right (by exact_mod_cast lower) nonneg
  have upper_scaled : raw * br ≤ 32767 * br :=
    mul_le_mul_of_nonneg_right (by exact_mod_cast upper) nonneg
  constructor <;> linarith

/-- Settles O35: the ranges are computed; the field is the range scaled by a value from -1 to 32767/32768, and
a selected range is positive. -/
theorem magneticFieldStaysInItsRange : Obligations.MagneticFieldStaysInItsRange := by
  refine ⟨rfl, fun raw b => ⟨mag16_eq raw b, mag16_eq_none_iff raw b, ?bounds⟩⟩
  case bounds =>
    intro br q lower upper hrange hfield
    rw [mag16_eq, hrange, Option.map_some, Option.some.injEq] at hfield
    rw [← hfield]
    exact scaled_mem_range (rangeMilliTesla_pos hrange).le lower upper

end Sys2Proof.Machine
end

section
/-! The statements about decoding and encoding (30_encoding.md, 10_state.md section 5). -/

namespace Sys2Proof.Machine

variable {TS : Type}

/-! ## A MOSI frame and its parts -/

/-- The five fields of a MOSI frame are those it was made from (30_encoding.md R72). -/
theorem fields_mosiFrameOf (rw : Bool) (a : Addr) (d : Half) (c k : BitVec 4) :
    mosiRw (mosiFrameOf rw a d c k) = rw ∧ mosiAddr (mosiFrameOf rw a d c k) = a ∧
      mosiData (mosiFrameOf rw a d c k) = d ∧ mosiCmd (mosiFrameOf rw a d c k) = c ∧
      mosiCrc (mosiFrameOf rw a d c k) = k := by
  refine ⟨?direction, ?address, ?data, ?command, ?checksum⟩
  case direction =>
    rw [mosiRw, mosiFrameOf]
    iterate 4 rw [BitVec.getLsbD_append]
    simp
  case address =>
    rw [mosiAddr, mosiFrameOf, BitVec.extractLsb'_append_eq_of_le (by decide),
      BitVec.extractLsb'_append_eq_of_le (by decide), BitVec.extractLsb'_append_eq_of_le (by decide)]
    exact BitVec.extractLsb'_append_eq_right
  case data =>
    rw [mosiData, mosiFrameOf, BitVec.extractLsb'_append_eq_of_le (by decide),
      BitVec.extractLsb'_append_eq_of_le (by decide)]
    exact BitVec.extractLsb'_append_eq_right
  case command =>
    rw [mosiCmd, mosiFrameOf, BitVec.extractLsb'_append_eq_of_le (by decide)]
    exact BitVec.extractLsb'_append_eq_right
  case checksum => exact BitVec.extractLsb'_append_eq_right

/-- Two adjacent slices are one slice. -/
theorem slices_join {w : Nat} (x : BitVec w) (hi n lo k : Nat) (adjacent : hi = lo + k) :
    x.extractLsb' hi n ++ x.extractLsb' lo k = x.extractLsb' lo (n + k) :=
  BitVec.extractLsb'_append_extractLsb'_eq_extractLsb' adjacent

/-- Assembly undoes the cut of a frame into bytes (20_memory.md R54). -/
theorem frameOfBytes_bytesOfFrame (m : Frame) :
    frameOfBytes (m.extractLsb' 24 8) (m.extractLsb' 16 8) (m.extractLsb' 8 8) (m.extractLsb' 0 8) = m := by
  rw [frameOfBytes, slices_join m 24 8 16 8 rfl, slices_join m 16 _ 8 8 rfl, slices_join m 8 _ 0 8 rfl]
  exact BitVec.extractLsb'_eq_self

/-! ## Decoding an encoded frame -/

theorem decode_bytesOfFrame (m : Frame) : decode (.frame (bytesOfFrame m) : Code TS) = .ok (decodeMosi m) := by
  rw [bytesOfFrame, decode_frame_four, frameOfBytes_bytesOfFrame]

theorem decode_writeCode (a : Addr) (d : Half) (c k : BitVec 4) :
    decode (writeCode a d c k : Code TS) = .ok (decodeWrite a d c k) := by
  obtain ⟨hrw, haddr, hdata, hcmd, hcrc⟩ := fields_mosiFrameOf false a d c k
  rw [writeCode, decode_bytesOfFrame, decodeMosi, hrw, haddr, hdata, hcmd, hcrc]
  rfl

theorem decode_readCode (a : Addr) (d : Half) (c k : BitVec 4) :
    decode (readCode a d c k : Code TS) = .ok (decodeRead a d c k) := by
  obtain ⟨hrw, haddr, hdata, hcmd, hcrc⟩ := fields_mosiFrameOf true a d c k
  rw [readCode, decode_bytesOfFrame, decodeMosi, hrw, haddr, hdata, hcmd, hcrc]
  rfl

/-- Above `0x15` the block of the address selects the row (30_encoding.md R81). -/
theorem decodeWrite_of_gt {a : Addr} (d : Half) (c k : BitVec 4) (h : 0x15 < a.toNat) :
    (decodeWrite a d c k : Instr TS) =
      if a.toNat ≤ 0x17 then .wrUnknown16 a d c k
      else if a.toNat ≤ 0x1F then .wrUnknown18 a d c k
      else if a.toNat ≤ 0x3F then .wrUnknown20 a d c k
      else .wrUnknown40 a d c k := by
  unfold decodeWrite
  split
  case h_23 => rfl
  all_goals omega

theorem decodeRead_of_gt {a : Addr} (d : Half) (c k : BitVec 4) (h : 0x15 < a.toNat) :
    (decodeRead a d c k : Instr TS) =
      if a.toNat ≤ 0x17 then .rdUnknown16 a d c k
      else if a.toNat ≤ 0x1F then .rdUnknown18 a d c k
      else if a.toNat ≤ 0x3F then .rdUnknown20 a d c k
      else .rdUnknown40 a d c k := by
  unfold decodeRead
  split
  case h_23 => rfl
  all_goals omega

theorem inBlock_iff (a : Addr) (lo hi : Nat) : Addr.inBlock a lo hi = true ↔ lo ≤ a.toNat ∧ a.toNat ≤ hi := by
  rw [Addr.inBlock, Bool.and_eq_true, decide_eq_true_iff, decide_eq_true_iff]

/-- Settles O1: a frame row by the fields of its frame, where an unknown address stands in the block of its row;
an event or a data type by its code; and an optional byte by its valid bit. -/
theorem decodeOfEncodeIsTheInstruction : Obligations.DecodeOfEncodeIsTheInstruction := by
  intro TS filler i wf
  cases i with
  | enable | enableRestart | resultIgnored | disableIgnored | disable | reservedKind3 => rfl
  | result ts mosi miso => cases mosi <;> cases miso <;> rfl
  | misoDefault | misoXy | misoXz | misoZy | misoXt | misoYt | misoZt | misoAm => rfl
  | wrUnknown16 a d c k | wrUnknown18 a d c k | wrUnknown20 a d c k | wrUnknown40 a d c k =>
    obtain ⟨lower, upper⟩ := (inBlock_iff a _ _).mp wf
    rw [encode, decode_writeCode, decodeWrite_of_gt d c k (by omega)]
    simp (disch := omega) only [if_pos, if_neg]
  | rdUnknown16 a d c k | rdUnknown18 a d c k | rdUnknown20 a d c k | rdUnknown40 a d c k =>
    obtain ⟨lower, upper⟩ := (inBlock_iff a _ _).mp wf
    rw [encode, decode_readCode, decodeRead_of_gt d c k (by omega)]
    simp (disch := omega) only [if_pos, if_neg]
  | wrDeviceConfig d c k | wrSensorConfig d c k | wrSystemConfig d c k | wrAlertConfig d c k
  | wrXThrxConfig d c k | wrYThrxConfig d c k | wrZThrxConfig d c k | wrTThrxConfig d c k
  | wrConvStatus d c k | wrXChResult d c k | wrYChResult d c k | wrZChResult d c k | wrTempResult d c k
  | wrAfeStatus d c k | wrSysStatus d c k | wrTestConfig d c k | wrOscMonitor d c k | wrMagGainConfig d c k
  | wrMagOffsetConfig d c k | wrAngleResult d c k | wrMagnitudeResult d c k | wrUnknown15 d c k =>
    exact decode_writeCode _ d c k
  | rdDeviceConfig d c k | rdSensorConfig d c k | rdSystemConfig d c k | rdAlertConfig d c k
  | rdXThrxConfig d c k | rdYThrxConfig d c k | rdZThrxConfig d c k | rdTThrxConfig d c k
  | rdConvStatus d c k | rdXChResult d c k | rdYChResult d c k | rdZChResult d c k | rdTempResult d c k
  | rdAfeStatus d c k | rdSysStatus d c k | rdTestConfig d c k | rdOscMonitor d c k | rdMagGainConfig d c k
  | rdMagOffsetConfig d c k | rdAngleResult d c k | rdMagnitudeResult d c k | rdUnknown15 d c k =>
    exact decode_readCode _ d c k

/-! ## Encoding a decoded frame -/

/-- A known address is its own number. -/
theorem addr_eq_of_toNat {a : Addr} {n : Nat} (h : a.toNat = n) : a = BitVec.ofNat 7 n := by
  rw [← h, BitVec.ofNat_toNat, BitVec.setWidth_eq]

theorem encode_decodeWrite (filler : TS) (a : Addr) (d : Half) (c k : BitVec 4) :
    encode filler (decodeWrite a d c k) = writeCode a d c k := by
  unfold decodeWrite
  split
  case h_23 => split_ifs <;> rfl
  all_goals
    rename_i h
    rw [addr_eq_of_toNat h]
    rfl

theorem encode_decodeRead (filler : TS) (a : Addr) (d : Half) (c k : BitVec 4) :
    encode filler (decodeRead a d c k) = readCode a d c k := by
  unfold decodeRead
  split
  case h_23 => split_ifs <;> rfl
  all_goals
    rename_i h
    rw [addr_eq_of_toNat h]
    rfl

/-- Encoding a decoded frame gives its bytes: the rows keep all five fields. -/
theorem encode_decodeMosi (filler : TS) (m : Frame) : encode filler (decodeMosi m) = .frame (bytesOfFrame m) := by
  have again := mosiFrameOf_fields m
  unfold decodeMosi
  split
  case isTrue hrw =>
    rw [hrw] at again
    rw [encode_decodeRead, readCode, again]
  case isFalse hrw =>
    rw [Bool.eq_false_iff.mpr hrw] at again
    rw [encode_decodeWrite, writeCode, again]

theorem wellFormed_decodeWrite (a : Addr) (d : Half) (c k : BitVec 4) :
    (decodeWrite a d c k : Instr TS).wellFormed = true := by
  unfold decodeWrite
  split
  case h_23 =>
    have := a.isLt
    simp only [imp_false] at *
    split_ifs <;> simp only [Instr.wellFormed, inBlock_iff] <;> omega
  all_goals rfl

theorem wellFormed_decodeRead (a : Addr) (d : Half) (c k : BitVec 4) :
    (decodeRead a d c k : Instr TS).wellFormed = true := by
  unfold decodeRead
  split
  case h_23 =>
    have := a.isLt
    simp only [imp_false] at *
    split_ifs <;> simp only [Instr.wellFormed, inBlock_iff] <;> omega
  all_goals rfl

theorem wellFormed_decodeMosi (m : Frame) : (decodeMosi m : Instr TS).wellFormed = true := by
  unfold decodeMosi
  split
  · exact wellFormed_decodeRead ..
  · exact wellFormed_decodeWrite ..

/-- Settles O2: the decoded row is in its block, and it keeps every field of the frame. -/
theorem everyMosiFrameEncodesBack : Obligations.EveryMosiFrameEncodesBack :=
  fun _ filler m => ⟨wellFormed_decodeMosi m, encode_decodeMosi filler m⟩

/-- Settles O5: the six words are computed. -/
theorem wordsOfTheTableDecodeToTheirRows : Obligations.WordsOfTheTableDecodeToTheirRows :=
  ⟨rfl, rfl, rfl, rfl, rfl, rfl⟩

/-! ## The rows of an event -/

section
variable {ev : Event TS}

theorem decodeEvent_of_kind_zero (h : ev.kind = 0) :
    decodeEvent .waitEnable ev = .enable ev.ts ∧ decodeEvent .accumulating ev = .enableRestart ev.ts := by
  simp [decodeEvent, h]

theorem decodeEvent_of_kind_one (h : ev.kind = 1) :
    decodeEvent .waitEnable ev = .resultIgnored ∧
      decodeEvent .accumulating ev =
        .result ev.ts (if ev.mosiValid then some ev.mosi else none)
          (if ev.misoValid then some ev.miso else none) := by
  simp [decodeEvent, h]

theorem decodeEvent_of_kind_two (h : ev.kind = 2) :
    decodeEvent .waitEnable ev = .disableIgnored ∧ decodeEvent .accumulating ev = .disable ev.ts := by
  simp [decodeEvent, h]

theorem decodeEvent_of_kind_three (h : ev.kind = 3) :
    decodeEvent .waitEnable ev = .reservedKind3 ∧ decodeEvent .accumulating ev = .reservedKind3 := by
  simp [decodeEvent, h]

end

/-- Settles O4: kind by kind. -/
theorem eventRowsAreSelectedByKindAndState : Obligations.EventRowsAreSelectedByKindAndState :=
  fun _ _ => ⟨decodeEvent_of_kind_zero, decodeEvent_of_kind_one, decodeEvent_of_kind_two,
    decodeEvent_of_kind_three⟩

/-! ## The configuration word -/

@[simp] theorem dataType_ofCode_code (t : DataType) : DataType.ofCode t.code = t := by cases t <;> rfl

@[simp] theorem dataType_code_ofCode : ∀ c : BitVec 3, (DataType.ofCode c).code = c := by decide

@[simp] theorem brOfCode_brCode (b : BrRange) : brOfCode (brCode b) = some b := by cases b <;> rfl

/-- A range has the code it was read from (10_state.md R32). -/
theorem brCode_of_brOfCode {c : BitVec 3} {b : BrRange} (h : brOfCode c = some b) : brCode b = c := by
  have all : ∀ c : BitVec 3, ∀ b ∈ brOfCode c, brCode b = c := by decide
  exact all c b h

/-- Only the reserved code 7 has no range (D34). -/
theorem brOfCode_eq_none_iff : ∀ c : BitVec 3, brOfCode c = none ↔ c = 7 := by decide

/-- Every field of the configuration word stands at its own bits (10_state.md R38). -/
theorem packConfig_fields (c : DecoderConfig) :
    (packConfig c).extractLsb' 0 3 = c.dataType.code ∧ (packConfig c).extractLsb' 3 3 = brCode c.brX ∧
      (packConfig c).extractLsb' 6 3 = brCode c.brY ∧ (packConfig c).extractLsb' 9 3 = brCode c.brZ ∧
      (packConfig c).getLsbD 12 = c.convEn ∧ (packConfig c).getLsbD 13 = c.crcCheckEn ∧
      (packConfig c).getLsbD 14 = c.statNibbleEn ∧ (packConfig c).getLsbD 15 = c.stat8En ∧
      (packConfig c).getLsbD 16 = c.earlyFinalize := by
  unfold packConfig
  refine ⟨BitVec.extractLsb'_append_eq_right, ?brX, ?brY, ?brZ, ?flags⟩
  case brX =>
    rw [BitVec.extractLsb'_append_eq_of_le (by decide)]
    exact BitVec.extractLsb'_append_eq_right
  case brY =>
    rw [BitVec.extractLsb'_append_eq_of_le (by decide), BitVec.extractLsb'_append_eq_of_le (by decide)]
    exact BitVec.extractLsb'_append_eq_right
  case brZ =>
    rw [BitVec.extractLsb'_append_eq_of_le (by decide), BitVec.extractLsb'_append_eq_of_le (by decide),
      BitVec.extractLsb'_append_eq_of_le (by decide)]
    exact BitVec.extractLsb'_append_eq_right
  case flags =>
    refine ⟨?_, ?_, ?_, ?_, ?_⟩ <;>
      (iterate 8 rw [BitVec.getLsbD_append]) <;> simp

/-- The configuration word is put together again from its fields (10_state.md R38). -/
theorem configWord_of_fields (w : BitVec 17) :
    BitVec.ofBool (w.getLsbD 16) ++ BitVec.ofBool (w.getLsbD 15) ++ BitVec.ofBool (w.getLsbD 14) ++
      BitVec.ofBool (w.getLsbD 13) ++ BitVec.ofBool (w.getLsbD 12) ++ w.extractLsb' 9 3 ++ w.extractLsb' 6 3 ++
      w.extractLsb' 3 3 ++ w.extractLsb' 0 3 = w := by
  have flag (i : Nat) : BitVec.ofBool (w.getLsbD i) = w.extractLsb' i 1 := by
    ext j hj
    obtain rfl : j = 0 := by omega
    simp
  rw [flag, flag, flag, flag, flag, slices_join w 16 1 15 1 rfl, slices_join w 15 _ 14 1 rfl,
    slices_join w 14 _ 13 1 rfl, slices_join w 13 _ 12 1 rfl, slices_join w 12 _ 9 3 rfl,
    slices_join w 9 _ 6 3 rfl, slices_join w 6 _ 3 3 rfl, slices_join w 3 _ 0 3 rfl]
  exact BitVec.extractLsb'_eq_self

theorem unpackConfig_packConfig (c : DecoderConfig) : unpackConfig (packConfig c) = some c := by
  obtain ⟨htype, hx, hy, hz, hconv, hcrc, hstat, hstat8, hearly⟩ := packConfig_fields c
  simp only [unpackConfig, htype, hx, hy, hz, hconv, hcrc, hstat, hstat8, hearly, brOfCode_brCode,
    dataType_ofCode_code, Option.bind_some, Option.map_some]

theorem packConfig_of_unpackConfig {w : BitVec 17} {c : DecoderConfig} (h : unpackConfig w = some c) :
    packConfig c = w := by
  simp only [unpackConfig, Option.bind_eq_some_iff, Option.map_eq_some_iff] at h
  obtain ⟨x, hx, y, hy, z, hz, rfl⟩ := h
  rw [packConfig, brCode_of_brOfCode hx, brCode_of_brOfCode hy, brCode_of_brOfCode hz, dataType_code_ofCode]
  exact configWord_of_fields w

/-- A word is refused exactly for a reserved range code (D34). -/
theorem unpackConfig_eq_none_iff (w : BitVec 17) :
    unpackConfig w = none ↔ w.extractLsb' 3 3 = 7 ∨ w.extractLsb' 6 3 = 7 ∨ w.extractLsb' 9 3 = 7 := by
  simp only [unpackConfig, ← brOfCode_eq_none_iff]
  cases brOfCode (w.extractLsb' 3 3) <;> cases brOfCode (w.extractLsb' 6 3) <;> simp

/-- Settles O6: each field by its bits, each code by its inverse. -/
theorem configurationWordRoundTrips : Obligations.ConfigurationWordRoundTrips :=
  ⟨unpackConfig_packConfig, fun _ _ => packConfig_of_unpackConfig, unpackConfig_eq_none_iff, packConfig_fields,
    rfl, rfl⟩

end Sys2Proof.Machine
end

section
/-! The appends of a RESULT event, the steps that every state takes, and the invariant (43_frame_assembler.md
section 1, 10_state.md section 1). -/

namespace Sys2Proof.Machine

variable {TS : Type}

/-! ## What the appends store -/

/-- The counter of a side after an optional byte (43_frame_assembler.md R164, D5). -/
def advanced (b : Option Byte) (n : BitVec 3) : BitVec 3 :=
  if b = none then n else if n.toNat < 4 then n + 1 else 5

/-- The buffer of a side with counter `n` after an optional byte (43_frame_assembler.md R164, D5). -/
def stored (b : Option Byte) (n : BitVec 3) (m : Memory) : Memory :=
  match b with
  | none => m
  | some b => if n.toNat < 4 then m.write n.toNat b else m

/-- Everything an append of an optional byte does: the buffer and the counter of its side. -/
theorem appendByte_eq (side : Side) (b : Option Byte) (s : State TS) :
    appendByte side b s =
      (s.withBuffer side (stored b (s.count side) (s.buffer side))).withCount side (advanced b (s.count side)) := by
  cases b with
  | none => cases side <;> rfl
  | some x =>
    by_cases below : (s.count side).toNat < 4
    · rw [appendByte, append_below side x s below, stored, advanced, if_pos below, if_neg nofun, if_pos below]
    · rw [appendByte, append_full side x s below, stored, advanced, if_neg below, if_neg nofun, if_neg below]
      cases side <;> rfl

/-- Everything the two appends do: each side on its own, and nothing else. -/
theorem appendBoth_eq (a b : Option Byte) (s : State TS) :
    appendBoth a b s =
      { s with
        bufMosi := stored a s.cntMosi s.bufMosi, cntMosi := advanced a s.cntMosi
        bufMiso := stored b s.cntMiso s.bufMiso, cntMiso := advanced b s.cntMiso } := by
  rw [appendBoth, appendByte_eq, appendByte_eq]
  rfl

theorem read_stored (b : Option Byte) (n : BitVec 3) (m : Memory) (i : Nat) :
    (stored b n m).read i = if b ≠ none ∧ n.toNat < 4 ∧ i = n.toNat then b else m.read i := by
  cases b with
  | none => simp [stored]
  | some x =>
    by_cases below : n.toNat < 4
    · by_cases here : i = n.toNat
      · simp [stored, below, here, Memory.read_write_same]
      · simp [stored, below, here, Memory.read_write_other]
    · simp [stored, below]

/-- Settles O16: the appends side by side, and what a buffer reads after a store. -/
theorem appendStoresAtTheCounter : Obligations.AppendStoresAtTheCounter := by
  intro TS s a b
  rw [appendBoth_eq]
  exact ⟨rfl, rfl, read_stored a s.cntMosi s.bufMosi, read_stored b s.cntMiso s.bufMiso⟩

/-! ## The steps -/

/-- Settles O7: the event case of the step. -/
theorem stepRunsTheDecodedEvent : Obligations.StepRunsTheDecodedEvent := by
  intro s ev rest hin
  rw [step_eq, hin]

theorem step_of_nil {s : State} (hin : s.inbox = []) : step s = .next (setOut none s) := by
  rw [step_eq, hin]

theorem step_of_construct {s : State} {c : DecoderConfig} {rest : List Input}
    (hin : s.inbox = .construct c :: rest) : step s = .next (construct c { s with inbox := rest }) := by
  rw [step_eq, hin]

/-- Settles O8: an event has an effect, and the other inputs are answered outright. -/
theorem everyStepAnswersANextState : Obligations.EveryStepAnswersANextState := by
  intro s
  match hin : s.inbox with
  | [] => exact ⟨_, step_of_nil hin⟩
  | .construct c :: rest => exact ⟨_, step_of_construct hin⟩
  | .event ev :: rest =>
    obtain ⟨t, hexec, -⟩ := exec_decodeEvent ev { s with inbox := rest }
    exact ⟨t, (stepRunsTheDecodedEvent s ev rest hin).trans hexec⟩

/-- Settles O10: the two cases of the step without an event. -/
theorem stepsWithoutAnEvent : Obligations.StepsWithoutAnEvent := by
  refine ⟨fun s => step_of_nil, fun s c rest hin => ⟨_, step_of_construct hin, ?_⟩⟩
  exact ⟨rfl, rfl, rfl, fun _ => rfl, fun _ => rfl, rfl, rfl, rfl, rfl⟩

/-! ## The event rows without a record -/

/-- Settles O13: the restart row by its definition. -/
theorem enableRestartsTheTransaction : Obligations.EnableRestartsTheTransaction := fun _ _ => rfl

/-- Settles O14: row by row. -/
theorem ignoredEventsChangeNothing : Obligations.IgnoredEventsChangeNothing :=
  fun _ => List.forall_iff_forall_mem.mp ⟨rfl, rfl, rfl⟩

/-- The early-finalize test needs the policy and a side with four bytes (43_frame_assembler.md R165). -/
theorem firesEarly_eq_true_iff (s : State TS) :
    firesEarly s = true ↔ s.cfg.earlyFinalize = true ∧ (s.cntMosi = 4 ∨ s.cntMiso = 4) := by
  simp [firesEarly]

theorem firesEarly_appendBoth_iff (a b : Option Byte) (s : State TS) :
    firesEarly (appendBoth a b s) = true ↔
      s.cfg.earlyFinalize = true ∧ ((appendBoth a b s).cntMosi = 4 ∨ (appendBoth a b s).cntMiso = 4) := by
  rw [firesEarly_eq_true_iff, appendBoth_cfg]

/-- A DISABLE is silent for an empty transaction under `EMPTY_FINALIZE_EMITS = false` (43_frame_assembler.md
R166). -/
theorem suppressed_eq_true_iff (s : State TS) :
    suppressed s = true ↔ s.params.emptyFinalizeEmits = false ∧ s.cntMosi = 0 ∧ s.cntMiso = 0 := by
  simp [suppressed, and_assoc]

/-- A side with four bytes keeps a DISABLE from being silent. -/
theorem suppressed_eq_false {s : State TS} {side : Side} (h : s.count side = 4) : suppressed s = false := by
  rw [Bool.eq_false_iff, ne_eq, suppressed_eq_true_iff]
  rintro ⟨-, mosi, miso⟩
  cases side with
  | mosi => exact absurd (mosi.symm.trans h) (by decide)
  | miso => exact absurd (miso.symm.trans h) (by decide)

/-- Settles O15: the test does not fire, so only the appends are left. -/
theorem resultOnlyAppends : Obligations.ResultOnlyAppends := by
  intro s ts a b quiet
  have not_firing : firesEarly (appendBoth a b s) = false := by
    rw [Bool.eq_false_iff, ne_eq, firesEarly_appendBoth_iff]
    rintro ⟨policy, full⟩
    rcases quiet with off | ⟨mosi, miso⟩
    · exact absurd (off.symm.trans policy) Bool.false_ne_true
    · exact full.elim mosi miso
  have row : exec (.result ts a b) s = execResult ts a b s := rfl
  rw [row, execResult_quiet ts a b s not_firing, appendBoth_eq]
  rfl

/-- Settles O20: the suppressed DISABLE. -/
theorem emptyDisableMayBeSilent : Obligations.EmptyDisableMayBeSilent :=
  fun s ts silent mosi miso => execDisable_suppressed ts s ((suppressed_eq_true_iff s).mpr ⟨silent, mosi, miso⟩)

/-- Settles O18: a side with four bytes keeps the DISABLE from being silent, and both rows then put the record
of the same state on the output port. -/
theorem earlyFinalizeAgreesWithDisable : Obligations.EarlyFinalizeAgreesWithDisable := by
  intro s ts a b early full
  have fires := (firesEarly_appendBoth_iff a b s).mpr ⟨early, full⟩
  have emits : suppressed (appendBoth a b s) = false :=
    full.elim (suppressed_eq_false (side := .mosi)) (suppressed_eq_false (side := .miso))
  exact ⟨_, execDisable_emits ts _ emits, execResult_fires ts a b s fires⟩

/-- ENABLE opens a transaction in either state of the machine (43_frame_assembler.md R161, R167). -/
theorem step_of_kind_zero {s : State} {ev : Event} {rest : List Input} (hkind : ev.kind = 0)
    (hin : s.inbox = .event ev :: rest) :
    step s = .next (setOut none (openAt ev.ts { s with inbox := rest })) := by
  rw [stepRunsTheDecodedEvent s ev rest hin]
  obtain ⟨idle, busy⟩ := decodeEvent_of_kind_zero hkind
  cases s.fsm with
  | waitEnable => rw [idle]; rfl
  | accumulating => rw [busy]; rfl

/-- Settles O44: an opened transaction has nothing of the state but its constants and the later inputs. -/
theorem enableForgetsThePast : Obligations.EnableForgetsThePast := by
  intro s s' ev rest hkind hin hin' hcfg hparams
  rw [step_of_kind_zero hkind hin, step_of_kind_zero hkind hin', setOut_none_openAt, setOut_none_openAt,
    hcfg, hparams]

/-! ## The invariant -/

/-- Exactly the cells below the counter, and below 4, hold a value (10_state.md R22 to R24). -/
def CellsBelow (m : Memory) (n : BitVec 3) : Prop :=
  n.toNat ≤ 5 ∧ m.map Prod.fst = List.range (min n.toNat 4)

/-- A store above every cell that holds a value adds a cell at the end. -/
theorem write_above {m : Memory} {i : Nat} (b : Byte) (above : ∀ c ∈ m, c.1 < i) :
    m.write i b = m ++ [(i, b)] := by
  induction m with
  | nil => rfl
  | cons c m ih =>
    have first : c.1 < i := above c (List.mem_cons_self ..)
    have rest := ih fun c hc => above c (List.mem_cons_of_mem _ hc)
    rw [Memory.write, if_neg (by omega), if_neg (by omega), rest]
    rfl

/-- An append fills the cell at the counter, or none with the counter already past 3. -/
theorem cellsBelow_stored (b : Option Byte) {n : BitVec 3} {m : Memory} (h : CellsBelow m n) :
    CellsBelow (stored b n m) (advanced b n) := by
  obtain ⟨hle, hcells⟩ := h
  cases b with
  | none => exact ⟨hle, hcells⟩
  | some x =>
    by_cases below : n.toNat < 4
    · have above : ∀ c ∈ m, c.1 < n.toNat := by
        intro c hc
        have listed := List.mem_map_of_mem (f := Prod.fst) hc
        rw [hcells, List.mem_range] at listed
        omega
      have next : (n + 1).toNat = n.toNat + 1 := by bv_omega
      simp only [CellsBelow, stored, advanced, below, if_true, write_above x above, List.map_append, hcells, next,
        reduceCtorEq, if_false]
      refine ⟨by omega, ?_⟩
      rw [Nat.min_eq_left below, Nat.min_eq_left below.le, List.range_succ]
      rfl
    · have full : min n.toNat 4 = 4 := by omega
      simp only [CellsBelow, stored, advanced, below, if_false, reduceCtorEq, hcells, full]
      exact ⟨by decide, rfl⟩

/-- An empty state has the invariant, whatever it is about to do. -/
theorem inv_of_empty {s : State TS} (bufMosi : s.bufMosi = []) (cntMosi : s.cntMosi = 0) (bufMiso : s.bufMiso = [])
    (cntMiso : s.cntMiso = 0) : s.Inv := by
  constructor <;> simp [bufMosi, cntMosi, bufMiso, cntMiso]

/-- The invariant looks at neither the output port nor the inputs. -/
theorem State.Inv.setOut_inbox {s : State TS} (h : s.Inv) (r : Option (Record TS)) (rest : List (Input TS)) :
    (setOut r { s with inbox := rest }).Inv := by
  obtain ⟨mosi_le, miso_le, mosi_cells, miso_cells, idle, early⟩ := h
  exact ⟨mosi_le, miso_le, mosi_cells, miso_cells, idle, early⟩

/-- From below 4 an append that does not reach 4 stays below it. -/
theorem advanced_lt {b : Option Byte} {n : BitVec 3} (below : n.toNat < 4) (hne : advanced b n ≠ 4) :
    (advanced b n).toNat < 4 := by
  cases b with
  | none => exact below
  | some x =>
    simp only [advanced, below, if_true, reduceCtorEq, if_false] at hne ⊢
    bv_omega

/-- The appends keep the invariant inside a transaction, as long as the early-finalize test does not fire. -/
theorem State.Inv.appendBoth {s : State TS} (h : s.Inv) (a b : Option Byte)
    (quiet : firesEarly (Machine.appendBoth a b s) = false) :
    (setOut none { Machine.appendBoth a b s with fsm := .accumulating }).Inv := by
  obtain ⟨mosi_le, miso_le, mosi_cells, miso_cells, -, early⟩ := h
  rw [Bool.eq_false_iff, ne_eq, firesEarly_eq_true_iff] at quiet
  rw [appendBoth_eq] at quiet ⊢
  obtain ⟨mosi_le', mosi_cells'⟩ := cellsBelow_stored a ⟨mosi_le, mosi_cells⟩
  obtain ⟨miso_le', miso_cells'⟩ := cellsBelow_stored b ⟨miso_le, miso_cells⟩
  refine ⟨mosi_le', miso_le', mosi_cells', miso_cells', fun idle => (nomatch idle), fun policy => ?below⟩
  case below =>
    obtain ⟨mosi_lt, miso_lt⟩ := early policy
    exact ⟨advanced_lt mosi_lt fun full => quiet ⟨policy, .inl full⟩,
      advanced_lt miso_lt fun full => quiet ⟨policy, .inr full⟩⟩

/-- An event either empties the buffers, leaves them, or appends to them. -/
theorem EventEffect.keeps_inv {ev : Event} {s t : State} (h : EventEffect ev s t) (inv : s.Inv) : t.Inv := by
  cases h with
  | opens | finalizesEarly | finalizes | closesSilently => exact inv_of_empty rfl rfl rfl rfl
  | ignored => exact inv.setOut_inbox none s.inbox
  | accumulates _ _ quiet => exact inv.appendBoth _ _ quiet

/-- Settles O47: by the next input, and for an event by the cases of what it can do. -/
theorem everyStepKeepsTheInvariant : Obligations.EveryStepKeepsTheInvariant := by
  intro s t inv hstep
  match hin : s.inbox with
  | [] =>
    cases (step_of_nil hin).symm.trans hstep
    exact inv.setOut_inbox none s.inbox
  | .construct c :: rest =>
    cases (step_of_construct hin).symm.trans hstep
    exact inv_of_empty rfl rfl rfl rfl
  | .event ev :: rest =>
    exact (EventEffect.of_step hin hstep).keeps_inv (inv.setOut_inbox s.out rest)

/-- Settles O11: at reset everything is empty. -/
theorem resetIsIdleAndEmpty : Obligations.ResetIsIdleAndEmpty :=
  ⟨rfl, rfl, rfl, fun _ => ⟨rfl, rfl⟩, inv_of_empty rfl rfl rfl rfl⟩

end Sys2Proof.Machine
end

section
/-! The statements about the MOSI_FRAME rows, the registers of the default table and the DATA_TYPE rows
(42_register_map.md, 43_frame_assembler.md section 2, 44_mode_decoders.md, 45_unit_conversion.md). -/

namespace Sys2Proof.Machine

variable {TS : Type}

/-! ## The slices of the fields -/

/-- The error bit of a frame is the top bit of its command nibble (44_mode_decoders.md R201). -/
theorem bit7_mosiFrameOf (rw : Bool) (a : Addr) (d : Half) (c k : BitVec 4) :
    bit7 (mosiFrameOf rw a d c k) = c.getLsbD 3 := by
  rw [bit7, mosiFrameOf, BitVec.getLsbD_append, BitVec.getLsbD_append]
  rfl

/-- A lane is extended to its number, in two's complement when signed (44_mode_decoders.md R200). -/
theorem ext12_eq (c : BitVec 12) (signed : Bool) : ext12 c signed = laneValue signed c := by
  have extended : signExtend c.toNat 12 16 = some c.toInt := signExtend_toNat c (by decide) (by decide)
  simp only [ext12, laneValue, extended, Option.get_some]

/-- A register unpacks field by field into signed and unsigned slices (42_register_map.md R122). -/
theorem unpack_eq (d : RegDesc) (v : Half) :
    unpack d v = d.fields.map fun f =>
      (f.fname, if f.signed then sbits v f.lsb f.width else ubits v f.lsb f.width) := by
  simp only [unpack, field_eq, sbits, ubits]

/-! ## The MOSI_FRAME rows -/

/-- The payload by its direction (30_encoding.md R79). -/
theorem payload_eq (dir : Dir) (d : Half) (so : Option Frame) (dt : DataType) :
    payload dir d so dt =
      if dir = .write then some d else if dt = .default then so.map misoDataOf else none := by
  cases dir <;> rfl

/-- The MOSI side that a frame row assembles is the one its operands ask for. -/
theorem mosiSideDone (c : DecoderConfig) (p : Params) (dir : Dir) (a : Addr) (d : Half) (cmd crc : BitVec 4)
    (r : Record TS) : MosiSideDone c p dir a d cmd crc r (decodeMosiSide c p dir a d cmd crc r) where
  frame := rfl
  crcResult := rfl
  dir := rfl
  addr := rfl
  regKnown := by rw [decodeMosiSide_regKnown, lookup_isSome]
  mosiData := rfl
  regValue := by
    rw [decodeMosiSide_regValue, payload_eq]
    rfl
  fields := by rw [decodeMosiSide_fields, unpackedFields_eq, decodeMosiSide_regValue]
  regUnits := by
    intro absent
    have units : unitsReport c p a (payload dir d r.misoFrame c.dataType)
        (unpackedFields p.regmap a (payload dir d r.misoFrame c.dataType)) = noUnits := by
      rw [← decodeMosiSide_fields c p dir a d cmd crc r, absent, unitsReport_none]
    simp only [decodeMosiSide, units]
    exact ⟨rfl, rfl, rfl⟩
  cmd := rfl
  errBit := by
    rw [← bit7_mosiFrameOf (dir == .read) a d cmd crc]
    rfl
  same := ⟨rfl, rfl, rfl, rfl, rfl, rfl, rfl, rfl, rfl, rfl, rfl, rfl, rfl, rfl, rfl, rfl⟩

/-- A frame row changes the record on the output port alone, and there does its MOSI side. -/
theorem frameOp_done (dir : Dir) (a : Addr) (d : Half) (cmd crc : BitVec 4) {s : State TS} {r : Record TS}
    (hout : s.out = some r) :
    ∃ r', frameOp dir a d cmd crc s = .next { s with out := some r' } ∧
      MosiSideDone s.cfg s.params dir a d cmd crc r r' :=
  ⟨_, by rw [frameOp_eq, mapOut_some _ s r hout], mosiSideDone s.cfg s.params dir a d cmd crc r⟩

/-- Settles O21: each row is the one operation at its address. -/
theorem writeRowsDecodeTheMosiSide : Obligations.WriteRowsDecodeTheMosiSide := by
  intro s r a d c k hout row hrow
  have is_frameOp : exec row.1 s = frameOp .write row.2 d c k s := by
    fin_cases hrow <;> rfl
  rw [is_frameOp]
  exact frameOp_done .write row.2 d c k hout

/-- Settles O22: each row is the one operation at its address. -/
theorem readRowsDecodeTheMosiSide : Obligations.ReadRowsDecodeTheMosiSide := by
  intro s r a d c k hout row hrow
  have is_frameOp : exec row.1 s = frameOp .read row.2 d c k s := by
    fin_cases hrow <;> rfl
  rw [is_frameOp]
  exact frameOp_done .read row.2 d c k hout

/-! ## The rows of a decoded frame and of a mode -/

theorem exec_decodeWrite (a : Addr) (d : Half) (c k : BitVec 4) (s : State) :
    exec (decodeWrite a d c k) s = runRow (decodeWrite a d c k) s := by
  unfold decodeWrite
  split
  case h_23 => split_ifs <;> rfl
  all_goals rfl

theorem exec_decodeRead (a : Addr) (d : Half) (c k : BitVec 4) (s : State) :
    exec (decodeRead a d c k) s = runRow (decodeRead a d c k) s := by
  unfold decodeRead
  split
  case h_23 => split_ifs <;> rfl
  all_goals rfl

/-- As an instruction, the row of a MOSI frame does the MOSI side of the record on the output port. -/
theorem exec_decodeMosi (m : Frame) (s : State) :
    exec (decodeMosi m) s = .next (mapOut (mosiPart s.cfg s.params m) s) := by
  rw [← runRow_decodeMosi, decodeMosi]
  split
  · exact exec_decodeRead ..
  · exact exec_decodeWrite ..

/-- As an instruction, a DATA_TYPE row does its mode's part of the record on the output port. -/
theorem exec_decodeDataType (t : DataType) (s : State) :
    exec (decodeDataType t) s = .next (mapOut (modePart { s.cfg with dataType := t }) s) := by
  cases t <;> rfl

/-- Settles O23: without a record there is nothing to map. -/
theorem rowsWithoutARecordChangeNothing : Obligations.RowsWithoutARecordChangeNothing := by
  intro s hout
  refine ⟨fun m => ?_, fun dt => ?_⟩
  · rw [exec_decodeMosi, mapOut_none _ s hout]
  · rw [exec_decodeDataType, mapOut_none _ s hout]

/-! ## The registers of the default table -/

/-- The WR and the RD row `wr` and `rd` are those of the address `a`, where the default table has the register
`desc` (30_encoding.md R81, 42_register_map.md R124). -/
structure RegisterRows (wr rd : Half → BitVec 4 → BitVec 4 → Instr) (a : Addr) (desc : RegDesc) : Prop where
  write : ∀ d c k s, exec (wr d c k) s = frameOp .write a d c k s
  read : ∀ d c k s, exec (rd d c k) s = frameOp .read a d c k s
  known : lookup defaultRegmap a = some desc

theorem rows_deviceConfig : RegisterRows .wrDeviceConfig .rdDeviceConfig 0x00 descDeviceConfig :=
  ⟨fun _ _ _ _ => rfl, fun _ _ _ _ => rfl, rfl⟩
theorem rows_sensorConfig : RegisterRows .wrSensorConfig .rdSensorConfig 0x01 descSensorConfig :=
  ⟨fun _ _ _ _ => rfl, fun _ _ _ _ => rfl, rfl⟩
theorem rows_systemConfig : RegisterRows .wrSystemConfig .rdSystemConfig 0x02 descSystemConfig :=
  ⟨fun _ _ _ _ => rfl, fun _ _ _ _ => rfl, rfl⟩
theorem rows_alertConfig : RegisterRows .wrAlertConfig .rdAlertConfig 0x03 descAlertConfig :=
  ⟨fun _ _ _ _ => rfl, fun _ _ _ _ => rfl, rfl⟩
theorem rows_xThrxConfig : RegisterRows .wrXThrxConfig .rdXThrxConfig 0x04 descXThrxConfig :=
  ⟨fun _ _ _ _ => rfl, fun _ _ _ _ => rfl, rfl⟩
theorem rows_yThrxConfig : RegisterRows .wrYThrxConfig .rdYThrxConfig 0x05 descYThrxConfig :=
  ⟨fun _ _ _ _ => rfl, fun _ _ _ _ => rfl, rfl⟩
theorem rows_zThrxConfig : RegisterRows .wrZThrxConfig .rdZThrxConfig 0x06 descZThrxConfig :=
  ⟨fun _ _ _ _ => rfl, fun _ _ _ _ => rfl, rfl⟩
theorem rows_tThrxConfig : RegisterRows .wrTThrxConfig .rdTThrxConfig 0x07 descTThrxConfig :=
  ⟨fun _ _ _ _ => rfl, fun _ _ _ _ => rfl, rfl⟩
theorem rows_convStatus : RegisterRows .wrConvStatus .rdConvStatus 0x08 descConvStatus :=
  ⟨fun _ _ _ _ => rfl, fun _ _ _ _ => rfl, rfl⟩
theorem rows_xChResult : RegisterRows .wrXChResult .rdXChResult 0x09 descXChResult :=
  ⟨fun _ _ _ _ => rfl, fun _ _ _ _ => rfl, rfl⟩
theorem rows_yChResult : RegisterRows .wrYChResult .rdYChResult 0x0A descYChResult :=
  ⟨fun _ _ _ _ => rfl, fun _ _ _ _ => rfl, rfl⟩
theorem rows_zChResult : RegisterRows .wrZChResult .rdZChResult 0x0B descZChResult :=
  ⟨fun _ _ _ _ => rfl, fun _ _ _ _ => rfl, rfl⟩
theorem rows_tempResult : RegisterRows .wrTempResult .rdTempResult 0x0C descTempResult :=
  ⟨fun _ _ _ _ => rfl, fun _ _ _ _ => rfl, rfl⟩
theorem rows_afeStatus : RegisterRows .wrAfeStatus .rdAfeStatus 0x0D descAfeStatus :=
  ⟨fun _ _ _ _ => rfl, fun _ _ _ _ => rfl, rfl⟩
theorem rows_sysStatus : RegisterRows .wrSysStatus .rdSysStatus 0x0E descSysStatus :=
  ⟨fun _ _ _ _ => rfl, fun _ _ _ _ => rfl, rfl⟩
theorem rows_testConfig : RegisterRows .wrTestConfig .rdTestConfig 0x0F descTestConfig :=
  ⟨fun _ _ _ _ => rfl, fun _ _ _ _ => rfl, rfl⟩
theorem rows_oscMonitor : RegisterRows .wrOscMonitor .rdOscMonitor 0x10 descOscMonitor :=
  ⟨fun _ _ _ _ => rfl, fun _ _ _ _ => rfl, rfl⟩
theorem rows_magGainConfig : RegisterRows .wrMagGainConfig .rdMagGainConfig 0x11 descMagGainConfig :=
  ⟨fun _ _ _ _ => rfl, fun _ _ _ _ => rfl, rfl⟩
theorem rows_magOffsetConfig : RegisterRows .wrMagOffsetConfig .rdMagOffsetConfig 0x12 descMagOffsetConfig :=
  ⟨fun _ _ _ _ => rfl, fun _ _ _ _ => rfl, rfl⟩
theorem rows_angleResult : RegisterRows .wrAngleResult .rdAngleResult 0x13 descAngleResult :=
  ⟨fun _ _ _ _ => rfl, fun _ _ _ _ => rfl, rfl⟩
theorem rows_magnitudeResult : RegisterRows .wrMagnitudeResult .rdMagnitudeResult 0x14 descMagnitudeResult :=
  ⟨fun _ _ _ _ => rfl, fun _ _ _ _ => rfl, rfl⟩

/-- With a payload at a register of the default table, a frame row leaves the unpacked payload and its
annotations in the record. -/
theorem unpacks_and_annotates {i : Instr} {a : Addr} {desc : RegDesc} {dir : Dir} {d v : Half} {cmd crc : BitVec 4}
    {s : State} {r : Record} (row : exec i s = frameOp dir a d cmd crc s)
    (known : lookup defaultRegmap a = some desc) (hmap : s.params.regmap = defaultRegmap) (hout : s.out = some r)
    (hvalue : payload dir d r.misoFrame s.cfg.dataType = some v) :
    Unpacks i s (unpack desc v) ∧ Annotates i s (regUnits s.cfg s.params a v (unpack desc v)) := by
  have fields : unpackedFields s.params.regmap a (some v) = some (unpack desc v) := by
    rw [unpackedFields_eq, hmap, known]
    rfl
  have effect : exec i s =
      .next { s with out := some (decodeMosiSide s.cfg s.params dir a d cmd crc r) } := by
    rw [row, frameOp_eq, mapOut_some _ s r hout]
  refine ⟨⟨_, _, effect, rfl, ?_⟩, ⟨_, _, effect, rfl, ?_⟩⟩
  · rw [decodeMosiSide_fields, hvalue, fields]
  · simp only [decodeMosiSide, hvalue, fields, unitsReport, and_self]

section
variable {wr rd : Half → BitVec 4 → BitVec 4 → Instr} {a : Addr} {desc : RegDesc} {s : State} {r : Record}

theorem RegisterRows.of_write (rows : RegisterRows wr rd a desc) (hmap : s.params.regmap = defaultRegmap)
    (hout : s.out = some r) (v : Half) (c k : BitVec 4) :
    Unpacks (wr v c k) s (unpack desc v) ∧
      Annotates (wr v c k) s (regUnits s.cfg s.params a v (unpack desc v)) :=
  unpacks_and_annotates (rows.write v c k s) rows.known hmap hout rfl

theorem RegisterRows.of_read (rows : RegisterRows wr rd a desc) (hmap : s.params.regmap = defaultRegmap)
    (hout : s.out = some r) (regular : s.cfg.dataType = .default) {f : Frame} (hframe : r.misoFrame = some f)
    (d : Half) (c k : BitVec 4) :
    Unpacks (rd d c k) s (unpack desc (f.extractLsb' 8 16)) ∧
      Annotates (rd d c k) s
        (regUnits s.cfg s.params a (f.extractLsb' 8 16) (unpack desc (f.extractLsb' 8 16))) := by
  have value : payload .read d r.misoFrame s.cfg.dataType = some (f.extractLsb' 8 16) := by
    rw [payload_eq, regular, hframe]
    rfl
  exact unpacks_and_annotates (rows.read d c k s) rows.known hmap hout value

theorem RegisterRows.unpacksAs {L : Half → List (FieldName × Int)} (rows : RegisterRows wr rd a desc)
    (layout : ∀ v, unpack desc v = L v) : RegisterUnpacksAs wr rd L := by
  obtain rfl : unpack desc = L := funext layout
  exact ⟨fun _ _ v c k hmap hout => (rows.of_write hmap hout v c k).1,
    fun _ _ _ d c k hmap hout regular hframe => (rows.of_read hmap hout regular hframe d c k).1⟩

theorem RegisterRows.annotatedAs {U : DecoderConfig → Params → Half → RegUnits} (rows : RegisterRows wr rd a desc)
    (units : ∀ c p v, regUnits c p a v (unpack desc v) = U c p v) : RegisterAnnotatedAs wr rd U := by
  obtain rfl : (fun c p v => regUnits c p a v (unpack desc v)) = U := funext fun c => funext₂ (units c)
  exact ⟨fun _ _ v c k hmap hout => (rows.of_write hmap hout v c k).2,
    fun _ _ _ d c k hmap hout regular hframe => (rows.of_read hmap hout regular hframe d c k).2⟩

end

/-- Settles O24: register by register, the layout of the table. -/
theorem configRegisterFields : Obligations.ConfigRegisterFields :=
  ⟨rows_deviceConfig.unpacksAs (unpack_eq _), rows_sensorConfig.unpacksAs (unpack_eq _),
    rows_systemConfig.unpacksAs (unpack_eq _), rows_alertConfig.unpacksAs (unpack_eq _)⟩

/-- Settles O25: register by register, the layout of the table. -/
theorem thresholdRegisterFields : Obligations.ThresholdRegisterFields :=
  ⟨rows_xThrxConfig.unpacksAs (unpack_eq _), rows_yThrxConfig.unpacksAs (unpack_eq _),
    rows_zThrxConfig.unpacksAs (unpack_eq _), rows_tThrxConfig.unpacksAs (unpack_eq _)⟩

/-- Settles O26: register by register, the layout of the table. -/
theorem statusRegisterFields : Obligations.StatusRegisterFields :=
  ⟨rows_convStatus.unpacksAs (unpack_eq _), rows_afeStatus.unpacksAs (unpack_eq _),
    rows_sysStatus.unpacksAs (unpack_eq _)⟩

/-- Settles O27: register by register, the layout of the table. -/
theorem resultRegisterFields : Obligations.ResultRegisterFields :=
  ⟨rows_xChResult.unpacksAs (unpack_eq _), rows_yChResult.unpacksAs (unpack_eq _),
    rows_zChResult.unpacksAs (unpack_eq _), rows_tempResult.unpacksAs (unpack_eq _),
    rows_angleResult.unpacksAs (unpack_eq _), rows_magnitudeResult.unpacksAs (unpack_eq _)⟩

/-- Settles O28: register by register, the layout of the table. -/
theorem testAndTrimRegisterFields : Obligations.TestAndTrimRegisterFields :=
  ⟨rows_testConfig.unpacksAs (unpack_eq _), rows_oscMonitor.unpacksAs (unpack_eq _),
    rows_magGainConfig.unpacksAs (unpack_eq _), rows_magOffsetConfig.unpacksAs (unpack_eq _)⟩

/-! ## The register annotations -/

/-- A slice over the whole payload is the payload (42_register_map.md R134). -/
theorem sbits_whole (v : Half) : sbits v 0 16 = v.toInt := by rw [sbits, BitVec.extractLsb'_eq_self]

/-- The annotation of a magnetic result, over its raw value (45_unit_conversion.md R225). -/
theorem magResultUnits_eq (c : DecoderConfig) {fields : List (FieldName × Int)} {n : FieldName} (ax : Axis)
    {raw : Int} (named : fieldNamed fields n = some raw) :
    magResultUnits c fields n ax =
      { noUnits with reg := (rangeMilliTesla (axisRange c ax)).map fun br => (raw : Q) * br / 32768 } := by
  have scaled (br : Q) : (raw : Q) * 2 * br / 65536 = raw * br / 32768 := by ring
  simp only [magResultUnits, named, Option.bind_some, mag16_eq, scaled]

/-- The low 13 bits of the payload, in sixteenths of a degree (45_unit_conversion.md R228). -/
theorem angle16_eq_low13 (c : DecoderConfig) (v : Half) :
    angle16 c v = if c.convEn then some (((v.toNat % 8192 : Nat) : Q) / 16) else none := by
  have parts : v.toNat % 8192 = 16 * (v.toNat / 16 % 512) + v.toNat % 16 := by omega
  have sum : ((v.toNat / 16 % 512 : Nat) : Q) + ((v.toNat % 16 : Nat) : Q) / 16 =
      ((v.toNat % 8192 : Nat) : Q) / 16 := by
    rw [parts]
    push_cast
    ring
  rw [angle16_eq, sum]

/-- Settles O32: a magnetic result by its one field, the temperature and the angle by their formulas, and no
annotation at the twelve plain addresses. -/
theorem resultAndPlainRegisterAnnotations : Obligations.ResultAndPlainRegisterAnnotations := by
  have named_x (v : Half) : fieldNamed (unpack descXChResult v) .X_CH_RESULT = some v.toInt := by
    rw [unpack_eq, ← sbits_whole]
    rfl
  have named_y (v : Half) : fieldNamed (unpack descYChResult v) .Y_CH_RESULT = some v.toInt := by
    rw [unpack_eq, ← sbits_whole]
    rfl
  have named_z (v : Half) : fieldNamed (unpack descZChResult v) .Z_CH_RESULT = some v.toInt := by
    rw [unpack_eq, ← sbits_whole]
    rfl
  exact ⟨rows_xChResult.annotatedAs fun c _ v => magResultUnits_eq c .x (named_x v),
    rows_yChResult.annotatedAs fun c _ v => magResultUnits_eq c .y (named_y v),
    rows_zChResult.annotatedAs fun c _ v => magResultUnits_eq c .z (named_z v),
    rows_tempResult.annotatedAs fun _ _ _ => rfl,
    rows_angleResult.annotatedAs fun c _ v => congrArg (RegUnits.mk · none none) (angle16_eq_low13 c v),
    rows_deviceConfig.annotatedAs fun _ _ _ => rfl, rows_sensorConfig.annotatedAs fun _ _ _ => rfl,
    rows_systemConfig.annotatedAs fun _ _ _ => rfl, rows_alertConfig.annotatedAs fun _ _ _ => rfl,
    rows_convStatus.annotatedAs fun _ _ _ => rfl, rows_afeStatus.annotatedAs fun _ _ _ => rfl,
    rows_sysStatus.annotatedAs fun _ _ _ => rfl, rows_testConfig.annotatedAs fun _ _ _ => rfl,
    rows_oscMonitor.annotatedAs fun _ _ _ => rfl, rows_magGainConfig.annotatedAs fun _ _ _ => rfl,
    rows_magOffsetConfig.annotatedAs fun _ _ _ => rfl, rows_magnitudeResult.annotatedAs fun _ _ _ => rfl⟩

/-- The annotations of a magnetic threshold register, over its two signed codes (45_unit_conversion.md R227). -/
theorem magThreshUnits_eq (c : DecoderConfig) (p : Params) {fields : List (FieldName × Int)} {hi lo : FieldName}
    (ax : Axis) {x y : Int} (named_hi : fieldNamed fields hi = some x) (named_lo : fieldNamed fields lo = some y) :
    magThreshUnits c p fields hi lo ax =
      { reg := none
        thrHi := (rangeMilliTesla (threshRange c p ax)).map fun br => (x : Q) * br / 128
        thrLo := (rangeMilliTesla (threshRange c p ax)).map fun br => (y : Q) * br / 128 } := by
  simp only [magThreshUnits, named_hi, named_lo, Option.bind_some, magThr, brMT_eq_rangeMilliTesla]

/-- The X axis has the X range, shared or not (45_unit_conversion.md R227). -/
theorem threshRange_x (c : DecoderConfig) (p : Params) : threshRange c p .x = c.brX := ite_self _

/-- The annotations of the temperature threshold register, over its two codes (45_unit_conversion.md R223). -/
theorem tempThreshUnits_eq (c : DecoderConfig) {fields : List (FieldName × Int)} {x y : Nat}
    (named_hi : fieldNamed fields .T_HI_THRESHOLD = some (x : Int))
    (named_lo : fieldNamed fields .T_LO_THRESHOLD = some (y : Int)) :
    tempThreshUnits c fields =
      { reg := none
        thrHi := if c.convEn then some (((x : Q) - 103) * (4267 / 1000) + 172) else none
        thrLo := if c.convEn then some (((y : Q) - 50) * (4267 / 1000) - 53) else none } := by
  simp only [tempThreshUnits, named_hi, named_lo, Option.bind_some, tempThr, Int.cast_natCast, Int.cast_ofNat,
    Int.cast_neg, sub_eq_add_neg]

/-- Settles O33: the two codes of each register by their names, and the range of its axis. -/
theorem thresholdRegisterAnnotations : Obligations.ThresholdRegisterAnnotations := by
  refine ⟨rows_xThrxConfig.annotatedAs fun c p v => ?x, rows_yThrxConfig.annotatedAs fun c p v => ?y,
    rows_zThrxConfig.annotatedAs fun c p v => ?z, rows_tThrxConfig.annotatedAs fun c p v => ?t⟩
  case x =>
    rw [unpack_eq, ← threshRange_x c p]
    exact magThreshUnits_eq c p .x rfl rfl
  case y =>
    rw [unpack_eq]
    exact magThreshUnits_eq c p .y rfl rfl
  case z =>
    rw [unpack_eq]
    exact magThreshUnits_eq c p .z rfl rfl
  case t =>
    rw [unpack_eq]
    exact tempThreshUnits_eq c rfl rfl

/-! ## The DATA_TYPE rows -/

/-- With or without a MISO frame, the regular row assigns no field of the MOSI side (44_mode_decoders.md R191). -/
theorem modeKeeps_decodeRegular (c : DecoderConfig) (r : Record TS) : ModeKeeps r (decodeRegular c r) := by
  cases h : r.misoFrame with
  | none =>
    rw [decodeRegular_none c r h]
    simp only [ModeKeeps, and_self]
  | some f =>
    rw [decodeRegular_some c r f h]
    simp only [ModeKeeps, and_self]

theorem modeKeeps_decodePair (c : DecoderConfig) (q1 q2 : Quantity) (r : Record TS) :
    ModeKeeps r (decodePair c q1 q2 r) := by
  cases h : r.misoFrame with
  | none =>
    rw [decodePair_none c q1 q2 r h]
    simp only [ModeKeeps, and_self]
  | some f =>
    rw [decodePair_some c q1 q2 r f h]
    simp only [ModeKeeps, and_self]

theorem setRecord_self {s : State TS} {r : Record TS} (hout : s.out = some r) : { s with out := some r } = s := by
  rw [← hout]

/-- Settles O29: the regular part of the record, with and without a MISO frame. -/
theorem defaultRowReportsTheRegisterValue : Obligations.DefaultRowReportsTheRegisterValue := by
  intro s r hout
  have effect : exec .misoDefault s = .next { s with out := some (decodeRegular s.cfg r) } :=
    congrArg _ (mapOut_some _ s r hout)
  refine ⟨fun absent => ?_, fun f hframe => ⟨_, effect, ?_⟩⟩
  · rw [effect, decodeRegular_none _ r absent, setRecord_self hout]
  · have keeps := modeKeeps_decodeRegular s.cfg r
    rw [decodeRegular_some _ r f hframe] at keeps ⊢
    exact ⟨rfl, rfl, rfl, rfl, rfl, rfl, rfl, rfl, keeps⟩

/-- A channel-pair row with a MISO frame reports its two lanes. -/
theorem lanesDone_decodePair (c : DecoderConfig) (q1 q2 : Quantity) {r : Record TS} {f : Frame}
    (hframe : r.misoFrame = some f) : LanesDone q1.signed q2.signed f (decodePair c q1 q2 r) := by
  rw [decodePair_some c q1 q2 r f hframe, ext12_eq, ext12_eq]
  exact ⟨rfl, rfl, rfl, rfl, rfl, rfl⟩

/-- Settles O30: each row is the one operation on its pair of quantities. -/
theorem pairRowsReportTwoChannels : Obligations.PairRowsReportTwoChannels := by
  intro s r hout row hrow
  have is_pairOp : ∃ q1 q2 : Quantity, exec row.1 s = pairOp q1 q2 s ∧ row.2 = (q1.signed, q2.signed) := by
    fin_cases hrow <;> exact ⟨_, _, rfl, rfl⟩
  obtain ⟨q1, q2, hexec, hsigned⟩ := is_pairOp
  rw [hexec, hsigned, pairOp_eq, mapOut_some _ s r hout]
  refine ⟨fun absent => ?_, fun f hframe => ⟨_, rfl, ?_, ?_⟩⟩
  · rw [decodePair_none _ q1 q2 r absent, setRecord_self hout]
  · exact lanesDone_decodePair s.cfg q1 q2 hframe
  · exact modeKeeps_decodePair s.cfg q1 q2 r

/-- The annotation of a magnetic lane (45_unit_conversion.md R226). -/
theorem channelUnit_magnetic (c : DecoderConfig) (ax : Axis) (lane : BitVec 12) :
    channelUnit c (.magnetic ax) lane =
      (rangeMilliTesla (axisRange c ax)).map fun br => (lane.toInt : Q) * br / 2048 := by
  have scaled (br : Q) : (lane.toInt : Q) * 2 * br / 4096 = lane.toInt * br / 2048 := by ring
  simp only [channelUnit, mag12, brMT_eq_rangeMilliTesla, ext12_eq, laneValue, if_true, scaled]

/-- The annotation of an angle lane is its number in eighths of a degree (45_unit_conversion.md R229). -/
theorem channelUnit_angle (c : DecoderConfig) (lane : BitVec 12) :
    channelUnit c .angle lane = if c.convEn then some ((lane.toNat : Q) / 8) else none := by
  have parts : lane.toNat = 8 * (lane.toNat / 8 % 512) + lane.toNat % 8 := by
    have := lane.isLt
    omega
  have sum : ((lane.toNat / 8 % 512 : Nat) : Q) + ((lane.toNat % 8 : Nat) : Q) / 8 = (lane.toNat : Q) / 8 := by
    conv_rhs => rw [parts]
    push_cast
    ring
  rw [channelUnit, angle12_eq, sum]

/-- Settles O31: each row annotates its two lanes by what they carry. -/
theorem pairRowsAnnotateTheirChannels : Obligations.PairRowsAnnotateTheirChannels := by
  intro s r f hout hframe c1 c2 row hrow
  have is_pairOp : ∃ q1 q2, exec row.1 s = pairOp q1 q2 s ∧ channelUnit s.cfg q1 c1 = row.2.1 ∧
      channelUnit s.cfg q2 c2 = row.2.2 := by
    fin_cases hrow
    · exact ⟨_, _, rfl, channelUnit_magnetic .., channelUnit_magnetic ..⟩
    · exact ⟨_, _, rfl, channelUnit_magnetic .., channelUnit_magnetic ..⟩
    · exact ⟨_, _, rfl, channelUnit_magnetic .., channelUnit_magnetic ..⟩
    · exact ⟨_, _, rfl, channelUnit_magnetic .., rfl⟩
    · exact ⟨_, _, rfl, channelUnit_magnetic .., rfl⟩
    · exact ⟨_, _, rfl, channelUnit_magnetic .., rfl⟩
    · exact ⟨_, _, rfl, channelUnit_angle .., rfl⟩
  obtain ⟨q1, q2, hexec, hunit1, hunit2⟩ := is_pairOp
  refine ⟨decodePair s.cfg q1 q2 r, ?_, ?_, ?_⟩
  · rw [hexec, pairOp_eq, mapOut_some _ s r hout]
  · rw [decodePair_some s.cfg q1 q2 r f hframe, ← hunit1]
    rfl
  · rw [decodePair_some s.cfg q1 q2 r f hframe, ← hunit2]
    rfl

end Sys2Proof.Machine
end

section
/-! The record of a finalize as a function of the two frames, and the statements about it (30_encoding.md R78,
43_frame_assembler.md section 2, 60_exceptions.md). -/

namespace Sys2Proof.Machine

variable {TS : Type}

/-! ## The two stages of a finalize -/

/-- The record after the row of the MOSI frame, or as it was begun when there is none. -/
def mosiStage (ts1 : TS) (s : State TS) : Record TS :=
  match frameOf .mosi s with
  | some m => mosiPart s.cfg s.params m (beginRecord ts1 s)
  | none => beginRecord ts1 s

/-- A record after the row of the mode, or as it was when there is no MISO frame. -/
def modeStage (s : State TS) (r : Record TS) : Record TS :=
  match frameOf .miso s with
  | some _ => modePart s.cfg r
  | none => r

theorem recordOf_stages (ts1 : TS) (s : State TS) :
    recordOf ts1 s = closeRecord (modeStage s (mosiStage ts1 s)) := rfl

/-- Settles O9: the two rows do the two stages, and the error vector closes the record. -/
theorem finalizeRunsTheDecodedRows : Obligations.FinalizeRunsTheDecodedRows := by
  intro s ts emits
  refine ⟨setOut (some (mosiStage ts s)) s, setOut (some (modeStage s (mosiStage ts s))) s, ?mosiRow, ?noMosi,
    ?modeRow, ?noMiso, execDisable_emits ts s emits⟩
  case mosiRow =>
    intro m hm
    rw [exec_decodeMosi, mosiStage, hm]
    rfl
  case noMosi =>
    intro hm
    rw [mosiStage, hm]
  case modeRow =>
    intro f hf
    rw [exec_decodeDataType, modeStage, hf]
    rfl
  case noMiso =>
    intro hf
    rw [modeStage, hf]

/-! ## The record by its two frames -/

/-- The register annotations of a record by its MOSI frame, its payload and its fields (45_unit_conversion.md
R230). -/
def unitsOf (c : DecoderConfig) (p : Params) (mo : Option Frame) (value : Option Half)
    (fields : Option (List (FieldName × Int))) : RegUnits :=
  match mo with
  | some m => unitsReport c p (mosiAddr m) value fields
  | none => noUnits

/-- The record of a finalize before its error vector, each field from the MOSI frame `mo` and the MISO frame `so`
(30_encoding.md R78). -/
def tableRecord (c : DecoderConfig) (p : Params) (t0 t1 : TS) (mo so : Option Frame) : Record TS :=
  let value := mo.bind fun m => payload (dirOf m) (mosiData m) so c.dataType
  let fields := mo.bind fun m => unpackedFields p.regmap (mosiAddr m) value
  let units := unitsOf c p mo value fields
  let channels := modeChannels c.dataType
  { tStart := t0
    tEnd := t1
    lenErrMosi := mo.isNone
    lenErrMiso := so.isNone
    mosiFrame := mo
    misoFrame := so
    mosiCrc := mo.bind (crcReport c)
    misoCrc := so.bind (crcReport c)
    dir := mo.map dirOf
    addr := mo.map mosiAddr
    regKnown := mo.map fun m => (lookup p.regmap (mosiAddr m)).isSome
    mosiData := mo.map mosiData
    misoData := so.bind fun f => if channels.isNone then some (misoDataOf f) else none
    regValue := value
    fields := fields
    ch1Raw := so.bind fun f => channels.map fun _ => chan1 f
    ch2Raw := so.bind fun f => channels.map fun _ => chan2 f
    ch1Val := so.bind fun f => channels.map fun q => ext12 (chan1 f) q.1.signed
    ch2Val := so.bind fun f => channels.map fun q => ext12 (chan2 f) q.2.signed
    cmd := mo.bind fun m => cmdReport c (mosiCmd m)
    stat := so.bind (statReport c)
    errBit := match p.errorBitSource with
      | .mosi => mo.bind (errBitReport c)
      | .miso => so.bind (errBitReport c)
    stat8 := so.bind fun f => if channels.isNone then stat8Report c f else none
    err := 0
    regUnit := units.reg
    thrHiUnit := units.thrHi
    thrLoUnit := units.thrLo
    ch1Unit := so.bind fun f => channels.bind fun q => channelUnit c q.1 (chan1 f)
    ch2Unit := so.bind fun f => channels.bind fun q => channelUnit c q.2 (chan2 f) }

/-- The operands of the row of a MOSI frame make that frame again (30_encoding.md R72). -/
theorem mosiFrameOf_dirOf (m : Frame) :
    mosiFrameOf (dirOf m == .read) (mosiAddr m) (mosiData m) (mosiCmd m) (mosiCrc m) = m := by
  rw [dirOf_beq_read, mosiFrameOf_fields]

/-- A finalize computes the record of the table, and then its error vector: for each frame present or absent, in a
mode with or without channels, and for either source of the error bit. -/
theorem recordOf_eq (ts1 : TS) (s : State TS) :
    recordOf ts1 s =
      closeRecord (tableRecord s.cfg s.params s.tStart ts1 (frameOf .mosi s) (frameOf .miso s)) := by
  simp only [recordOf_stages, modeStage, mosiStage, beginRecord, mosiPart, decodeMosiSide, mosiFrameOf_dirOf,
    modePart, tableRecord]
  cases frameOf .mosi s <;> cases frameOf .miso s <;> cases modeChannels s.cfg.dataType <;>
    cases s.params.errorBitSource <;> rfl

/-! ## The record table -/

/-- The regular mode is the one without channels (44_mode_decoders.md R190). -/
theorem modeChannels_isNone (dt : DataType) : (modeChannels dt).isNone = decide (dt = .default) := by
  cases dt <;> rfl

/-- The signs of the channels are those of the mode's table (44_mode_decoders.md R190). -/
theorem channelsSigned_of_modeChannels {dt : DataType} {q : Quantity × Quantity} (h : modeChannels dt = some q) :
    channelsSigned dt = (q.1.signed, q.2.signed) := by
  cases dt with
  | default => cases h
  | xy | xz | zy | xt | yt | zt | am =>
    obtain rfl := Option.some.inj h
    rfl

/-- A report that needs a frame and a setting has both or is absent. -/
theorem bind_guarded {α β : Type} (setting : Prop) [Decidable setting] (slice : α → β) (frame : Option α) :
    (frame.bind fun f => if setting then some (slice f) else none) = if setting then frame.map slice else none := by
  by_cases h : setting <;> cases frame <;> simp [h]

/-- The payload by bit 31 of the MOSI frame (30_encoding.md R79). -/
theorem payload_dirOf (m : Frame) (so : Option Frame) (dt : DataType) :
    payload (dirOf m) (mosiData m) so dt =
      if mosiRw m = false then some (mosiData m) else if dt = .default then so.map misoDataOf else none := by
  rw [payload_eq, dirOf]
  cases mosiRw m <;> rfl

/-- Without fields there is no register annotation (45_unit_conversion.md R230). -/
theorem unitsOf_none (c : DecoderConfig) (p : Params) (mo : Option Frame) (value : Option Half) :
    unitsOf c p mo value none = noUnits := by
  cases mo with
  | none => rfl
  | some m => exact unitsReport_none ..

section
variable (c : DecoderConfig) (p : Params) (t0 t1 : TS) (mo so : Option Frame)

/-- The register annotations come from the MOSI frame, the payload and the fields that the record reports. -/
theorem tableRecord_units {r : Record TS} (h : r = tableRecord c p t0 t1 mo so) :
    r.regUnit = (unitsOf c p r.mosiFrame r.regValue r.fields).reg ∧
      r.thrHiUnit = (unitsOf c p r.mosiFrame r.regValue r.fields).thrHi ∧
      r.thrLoUnit = (unitsOf c p r.mosiFrame r.regValue r.fields).thrLo := by
  subst h
  exact ⟨rfl, rfl, rfl⟩

/-- The record of the two frames is the one of the table, side by side and mode by mode. -/
theorem recordFields_tableRecord : RecordFields c p (tableRecord c p t0 t1 mo so) where
  lenErrMosi := rfl
  lenErrMiso := rfl
  mosiCrc := bind_guarded _ crcTriple mo
  misoCrc := bind_guarded _ crcTriple so
  dir := rfl
  addr := rfl
  regKnown := by
    simp only [tableRecord, lookup_isSome]
    rfl
  mosiData := rfl
  misoData := by
    simp only [tableRecord, modeChannels_isNone, decide_eq_true_eq]
    exact bind_guarded _ misoDataOf so
  regValue := by
    cases mo with
    | none => rfl
    | some m =>
      exact payload_dirOf m so c.dataType
  fields := by
    simp only [tableRecord, unpackedFields_eq]
    rfl
  ch1Raw := by cases so <;> cases h : c.dataType <;> simp only [tableRecord, h] <;> rfl
  ch2Raw := by cases so <;> cases h : c.dataType <;> simp only [tableRecord, h] <;> rfl
  ch1Val := by
    cases so with
    | none => rfl
    | some f =>
      cases h : modeChannels c.dataType with
      | none => simp [tableRecord, h]
      | some q => simp [tableRecord, h, channelsSigned_of_modeChannels h, ext12_eq]
  ch2Val := by
    cases so with
    | none => rfl
    | some f =>
      cases h : modeChannels c.dataType with
      | none => simp [tableRecord, h]
      | some q => simp [tableRecord, h, channelsSigned_of_modeChannels h, ext12_eq]
  cmd := bind_guarded _ mosiCmd mo
  stat := bind_guarded _ misoStatOf so
  errBit := by
    simp only [tableRecord]
    cases p.errorBitSource with
    | mosi => exact bind_guarded _ bit7 mo
    | miso => exact bind_guarded _ bit7 so
  stat8 := by
    simp only [tableRecord, modeChannels_isNone, decide_eq_true_eq, stat8Report, ← ite_and]
    exact bind_guarded _ misoStat8Of so
  regUnits := by
    intro absent
    have units := tableRecord_units c p t0 t1 mo so rfl
    rw [absent, unitsOf_none] at units
    exact units
  ch1Unit := by cases so <;> cases h : modeChannels c.dataType <;> simp [tableRecord, h]
  ch2Unit := by cases so <;> cases h : modeChannels c.dataType <;> simp [tableRecord, h]

end

/-- The error vector is no row of the table. -/
theorem RecordFields.closeRecord {c : DecoderConfig} {p : Params} {r : Record TS} (h : RecordFields c p r) :
    RecordFields c p (closeRecord r) := { h with }

/-- A finalize of any state satisfies the record table (30_encoding.md R78). -/
theorem recordFields_recordOf (ts1 : TS) (s : State TS) : RecordFields s.cfg s.params (recordOf ts1 s) := by
  rw [recordOf_eq]
  exact (recordFields_tableRecord ..).closeRecord

/-! ## The error vector -/

theorem crcFailed_iff (x : Option CrcResult) : crcFailed x = true ↔ ∃ y, x = some y ∧ y.status = .error := by
  cases x <;> simp [crcFailed]

/-- The bits of the error vector (60_exceptions.md R245). -/
theorem errVector_bits (r : Record TS) :
    (errVector r).getLsbD 0 = r.lenErrMosi ∧ (errVector r).getLsbD 1 = r.lenErrMiso ∧
      (errVector r).getLsbD 2 = crcFailed r.mosiCrc ∧ (errVector r).getLsbD 3 = crcFailed r.misoCrc ∧
      (errVector r).getLsbD 4 = (r.regKnown == some false) := by
  unfold errVector
  refine ⟨?_, ?_, ?_, ?_, ?_⟩ <;> (iterate 4 rw [BitVec.getLsbD_append]) <;> simp

/-- The error vector of a record says what its other fields say, when these mark the missing frames. -/
theorem recordErrors_closeRecord {r : Record TS} (mosi : r.lenErrMosi = r.mosiFrame.isNone)
    (miso : r.lenErrMiso = r.misoFrame.isNone) : RecordErrors (closeRecord r) := by
  obtain ⟨bit0, bit1, bit2, bit3, bit4⟩ := errVector_bits r
  constructor
  case lenMosi => simp only [closeRecord, bit0, mosi, Option.isNone_iff_eq_none]
  case lenMiso => simp only [closeRecord, bit1, miso, Option.isNone_iff_eq_none]
  case crcMosi => simp only [closeRecord, bit2, crcFailed_iff]
  case crcMiso => simp only [closeRecord, bit3, crcFailed_iff]
  case unknownReg => simp only [closeRecord, bit4, beq_iff_eq]

theorem recordErrors_recordOf (ts1 : TS) (s : State TS) : RecordErrors (recordOf ts1 s) := by
  rw [recordOf_eq]
  exact recordErrors_closeRecord rfl rfl

/-- Settles O36: a record of a step is the record of a finalize. -/
theorem everyRecordSatisfiesTheTable : Obligations.EveryRecordSatisfiesTheTable := by
  intro s t r hstep hout
  obtain ⟨ts, u, rfl, hcfg, hparams⟩ := step_out_eq_recordOf hstep hout
  rw [← hcfg, ← hparams]
  exact ⟨recordFields_recordOf ts u, recordErrors_recordOf ts u⟩

end Sys2Proof.Machine
end

section
/-! The statements about the record that an event row delivers (43_frame_assembler.md, 60_exceptions.md,
45_unit_conversion.md R231). -/

namespace Sys2Proof.Machine

variable {TS : Type}

/-! ## The record of a DISABLE and of an early finalize -/

@[simp] theorem recordOf_tStart (ts1 : TS) (s : State TS) : (recordOf ts1 s).tStart = s.tStart := by
  rw [recordOf_eq]
  rfl

@[simp] theorem recordOf_tEnd (ts1 : TS) (s : State TS) : (recordOf ts1 s).tEnd = ts1 := by
  rw [recordOf_eq]
  rfl

@[simp] theorem recordOf_mosiFrame (ts1 : TS) (s : State TS) :
    (recordOf ts1 s).mosiFrame = frameOf .mosi s := by
  rw [recordOf_eq]
  rfl

@[simp] theorem recordOf_misoFrame (ts1 : TS) (s : State TS) :
    (recordOf ts1 s).misoFrame = frameOf .miso s := by
  rw [recordOf_eq]
  rfl

/-- Without four bytes on a side there is no frame of it (43_frame_assembler.md R172). -/
theorem frameOf_eq_none {side : Side} {s : State TS} (h : s.count side ≠ 4) : frameOf side s = none := by
  rw [← Option.not_isSome_iff_eq_none, frameOf_isSome_iff]
  exact h

/-- What a DISABLE puts on the output port. -/
theorem out_of_disable {s t : State} {ts : Stamp} (hexec : exec (.disable ts) s = .next t) :
    t.out = if suppressed s then none else some (recordOf ts s) := by
  cases h : suppressed s with
  | true =>
    cases (execDisable_suppressed ts s h).symm.trans hexec
    rfl
  | false =>
    cases (execDisable_emits ts s h).symm.trans hexec
    rfl

theorem record_of_disable {s t : State} {ts : Stamp} {r : Record} (hexec : exec (.disable ts) s = .next t)
    (hout : t.out = some r) : r = recordOf ts s := by
  rw [out_of_disable hexec] at hout
  split at hout
  · cases hout
  · exact (Option.some.inj hout).symm

/-- Settles O19: the emitted record is that of a finalize, which satisfies the table. -/
theorem disableEmitsTheRecordOfTheTable : Obligations.DisableEmitsTheRecordOfTheTable := by
  intro s ts not_empty
  have emits : suppressed s = false := by
    rw [Bool.eq_false_iff, ne_eq, suppressed_eq_true_iff]
    exact not_empty
  exact ⟨recordOf ts s, execDisable_emits ts s emits, recordOf_tStart ts s, recordOf_tEnd ts s,
    recordOf_mosiFrame ts s, recordOf_misoFrame ts s, recordFields_recordOf ts s, recordErrors_recordOf ts s⟩

/-- Settles O17: the emitted record is that of a finalize after both appends, which touch nothing but the buffers
and the counters. -/
theorem earlyFinalizeEmitsAndReopens : Obligations.EarlyFinalizeEmitsAndReopens := by
  intro s ts a b early full
  have fires := (firesEarly_appendBoth_iff a b s).mpr ⟨early, full⟩
  have table := recordFields_recordOf ts (appendBoth a b s)
  rw [appendBoth_cfg, appendBoth_params] at table
  refine ⟨recordOf ts (appendBoth a b s), ?reopened, ?latch, recordOf_tEnd .., recordOf_mosiFrame ..,
    recordOf_misoFrame .., table, recordErrors_recordOf ..⟩
  case reopened =>
    refine (execResult_fires ts a b s fires).trans ?_
    rw [appendBoth_eq]
    rfl
  case latch =>
    rw [recordOf_tStart, appendBoth_eq]

/-! ## Unknown addresses and length errors -/

/-- Settles O38: the table reports the address, and has no fields without a descriptor. -/
theorem unknownAddressIsReportedNotDecoded : Obligations.UnknownAddressIsReportedNotDecoded := by
  intro s ts m hm unknown
  have full : s.count .mosi = 4 := (frameOf_isSome_iff .mosi s).mp (by rw [hm]; rfl)
  have frame : (recordOf ts s).mosiFrame = some m := (recordOf_mosiFrame ts s).trans hm
  have table := recordFields_recordOf ts s
  have known : (recordOf ts s).regKnown = some false := by
    rw [table.regKnown, frame]
    exact congrArg some (decide_eq_false (Nat.not_le.mpr unknown))
  have fields : (recordOf ts s).fields = none := by
    rw [table.fields, frame, Option.bind_some, lookup_of_gt _ unknown]
    exact Option.bind_fun_none _
  have units := table.regUnits fields
  refine ⟨_, recordOf ts s, execDisable_emits ts s (suppressed_eq_false full), rfl, known,
    (recordErrors_recordOf ts s).unknownReg.mpr known, ?_, fields, units.1, units.2.1, units.2.2, table⟩
  rw [table.addr, frame]
  rfl

/-- Settles O39: a side without four bytes has no frame, and so nothing of its side of the table. -/
theorem lengthErrorMarksItsSideOnly : Obligations.LengthErrorMarksItsSideOnly := by
  intro s t ts r hexec hout emits
  obtain rfl := record_of_disable hexec hout
  have table := recordFields_recordOf ts s
  have errors := recordErrors_recordOf ts s
  refine ⟨fun short => ?noMosi, fun short => ?noMiso, fun full => ?mosi, fun full => ?miso⟩
  case noMosi =>
    have absent : frameOf .mosi s = none := frameOf_eq_none short
    have marked := errors.lenMosi.mpr ((recordOf_mosiFrame ts s).trans absent)
    rw [recordOf_eq, absent] at marked ⊢
    refine ⟨rfl, marked, rfl, rfl, rfl, rfl, rfl, rfl, rfl, rfl, rfl, rfl, rfl, rfl, fun source => ?_⟩
    simp only [closeRecord, tableRecord, source]
    rfl
  case noMiso =>
    have absent : frameOf .miso s = none := frameOf_eq_none short
    have marked := errors.lenMiso.mpr ((recordOf_misoFrame ts s).trans absent)
    rw [recordOf_eq, absent] at marked ⊢
    refine ⟨rfl, marked, rfl, rfl, rfl, rfl, rfl, rfl, rfl, rfl, rfl, rfl, rfl, fun source => ?_⟩
    simp only [closeRecord, tableRecord, source]
    rfl
  case mosi =>
    obtain ⟨m, hm⟩ := Option.isSome_iff_exists.mp ((frameOf_isSome_iff .mosi s).mpr full)
    have present := (recordOf_mosiFrame ts s).trans hm
    refine ⟨by rw [table.lenErrMosi, present]; rfl, Bool.eq_false_iff.mpr fun set => ?_, by rw [present]; rfl⟩
    exact nomatch present.symm.trans (errors.lenMosi.mp set)
  case miso =>
    obtain ⟨f, hf⟩ := Option.isSome_iff_exists.mp ((frameOf_isSome_iff .miso s).mpr full)
    have present := (recordOf_misoFrame ts s).trans hf
    refine ⟨by rw [table.lenErrMiso, present]; rfl, Bool.eq_false_iff.mpr fun set => ?_, by rw [present]; rfl⟩
    exact nomatch present.symm.trans (errors.lenMiso.mp set)

/-- Without frames the error vector has the two length errors alone (60_exceptions.md R245). -/
theorem errVector_of_no_frames (c : DecoderConfig) (p : Params) (t0 t1 : TS) :
    errVector (tableRecord c p t0 t1 none none) = 3 := by
  simp [errVector, tableRecord, crcFailed]

/-- Settles O40: the record of the table without frames. -/
theorem twoLengthErrorsLeaveAnEmptyRecord : Obligations.TwoLengthErrorsLeaveAnEmptyRecord := by
  intro s ts emits mosi miso
  refine ⟨_, execDisable_emits ts s emits, ?_⟩
  rw [close_out, setOut_out, recordOf_eq, frameOf_eq_none (side := .mosi) mosi,
    frameOf_eq_none (side := .miso) miso, closeRecord, errVector_of_no_frames, tableRecord]
  cases s.params.errorBitSource <;> rfl

/-! ## What a side of the record depends on -/

/-- Settles O41: the MISO side of the table mentions the MISO frame and the configuration alone. -/
theorem misoSideIsIndependentOfMosi : Obligations.MisoSideIsIndependentOfMosi := by
  intro s s' t t' ts ts' r r' hcfg hparams hbuf hcnt _ _ hexec hexec' hout hout'
  have frame : frameOf .miso s = frameOf .miso s' := frameOf_congr hbuf hcnt
  rw [record_of_disable hexec hout, record_of_disable hexec' hout', recordOf_eq, recordOf_eq, hcfg, hparams, frame]
  exact ⟨rfl, rfl, rfl, rfl, rfl, rfl, rfl, rfl, rfl, rfl, rfl, rfl⟩

/-- The register value of a record and what is made from it. -/
def registerPart (r : Record TS) : Option Half × Option (List (FieldName × Int)) × RegUnits :=
  (r.regValue, r.fields, { reg := r.regUnit, thrHi := r.thrHiUnit, thrLo := r.thrLoUnit })

/-- Two records agree in the register part field by field. -/
theorem registerPart_eq_iff (r r' : Record TS) :
    registerPart r = registerPart r' ↔
      r.regValue = r'.regValue ∧ r.fields = r'.fields ∧ r.regUnit = r'.regUnit ∧ r.thrHiUnit = r'.thrHiUnit ∧
        r.thrLoUnit = r'.thrLoUnit := by
  simp only [registerPart, Prod.mk.injEq, RegUnits.mk.injEq]

section
variable (c : DecoderConfig) (p : Params) (t0 t1 : TS) (so : Option Frame) {m : Frame}

/-- The payload of a write is its own data, and with it the fields and the annotations (30_encoding.md R79). -/
theorem registerPart_of_write (write : dirOf m = .write) :
    registerPart (tableRecord c p t0 t1 (some m) so) =
      let fields := unpackedFields p.regmap (mosiAddr m) (some (mosiData m))
      (some (mosiData m), fields, unitsReport c p (mosiAddr m) (some (mosiData m)) fields) := by
  simp only [registerPart, tableRecord, Option.bind_some, write, payload, unitsOf]

/-- A read without a MISO frame, or in a special mode, has no payload and nothing that needs one
(43_frame_assembler.md R175). -/
theorem registerPart_of_lacking_read (read : dirOf m = .read) (lacking : so = none ∨ c.dataType ≠ .default) :
    registerPart (tableRecord c p t0 t1 (some m) so) = (none, none, noUnits) := by
  have absent : payload .read (mosiData m) so c.dataType = none := by
    rcases lacking with rfl | special
    · exact ite_self _
    · exact if_neg special
  simp only [registerPart, tableRecord, Option.bind_some, read, absent, unpackedFields_none, unitsOf_none]

end

/-- Settles O42: the MOSI side of the table mentions the MOSI frame alone but for the payload, which a write takes
from its own data, and a read has only with a MISO frame in the regular mode. -/
theorem mosiSideIsIndependentOfMiso : Obligations.MosiSideIsIndependentOfMiso := by
  intro s s' t t' ts ts' r r' hcfg hparams hbuf hcnt _ _ hexec hexec' hout hout'
  have frame : frameOf .mosi s' = frameOf .mosi s := (frameOf_congr (side := .mosi) hbuf hcnt).symm
  rw [record_of_disable hexec hout, record_of_disable hexec' hout', recordOf_eq, recordOf_eq, ← hcfg, ← hparams,
    frame]
  refine ⟨⟨rfl, rfl, rfl, rfl, rfl, rfl, rfl, rfl⟩, fun way => ?write, fun way lacking => ?read⟩
  case write =>
    obtain ⟨m, hm, write⟩ := Option.map_eq_some_iff.mp way
    rw [hm]
    exact (registerPart_eq_iff _ _).mp <|
      (registerPart_of_write s.cfg s.params s.tStart ts (frameOf .miso s) write).trans
        (registerPart_of_write s.cfg s.params s'.tStart ts' (frameOf .miso s') write).symm
  case read =>
    obtain ⟨m, hm, read⟩ := Option.map_eq_some_iff.mp way
    have absent := registerPart_of_lacking_read s.cfg s.params s.tStart ts (frameOf .miso s) read
      (lacking.imp_left frameOf_eq_none)
    simp only [registerPart, noUnits, Prod.mk.injEq, RegUnits.mk.injEq] at absent
    rw [hm]
    exact absent

/-! ## What reaches no other field -/

/-- Two DISABLEs that are silent together deliver the same view of their records, when the records of their states
have it. -/
theorem disable_out_congr {α : Type} (view : Record → α) {s s' t t' : State} {ts : Stamp}
    (hexec : exec (.disable ts) s = .next t) (hexec' : exec (.disable ts) s' = .next t')
    (silent : suppressed s = suppressed s') (same : view (recordOf ts s) = view (recordOf ts s')) :
    t.out.map view = t'.out.map view := by
  rw [out_of_disable hexec, out_of_disable hexec', silent]
  split
  · rfl
  · exact congrArg some same

/-- Without bits 2 and 3 the error vector tells of the lengths and the address alone (60_exceptions.md R245). -/
theorem errVector_without_crc (r : Record TS) :
    errVector r &&& 0b10011#5 =
      BitVec.ofBool (r.regKnown == some false) ++ 0#2 ++ BitVec.ofBool r.lenErrMiso ++ BitVec.ofBool r.lenErrMosi := by
  have all : ∀ known misoCrc mosiCrc misoLen mosiLen : Bool,
      (BitVec.ofBool known ++ BitVec.ofBool misoCrc ++ BitVec.ofBool mosiCrc ++ BitVec.ofBool misoLen ++
          BitVec.ofBool mosiLen) &&& 0b10011#5 =
        BitVec.ofBool known ++ 0#2 ++ BitVec.ofBool misoLen ++ BitVec.ofBool mosiLen := by decide
  exact all ..

/-- Settles O45: no other field of the table mentions the CRC check, and the masked error vector neither. -/
theorem crcCheckChangesNoOtherField : Obligations.CrcCheckChangesNoOtherField := by
  intro s t t' ts on hexec hexec'
  have same : (recordOf ts s).withoutCrc =
      (recordOf ts { s with cfg := { s.cfg with crcCheckEn := on } }).withoutCrc := by
    simp only [recordOf_eq, Record.withoutCrc, closeRecord, errVector_without_crc]
    rfl
  exact disable_out_congr _ hexec hexec' rfl same

/-- Settles O46: no other field of the table mentions the ranges or the conversion enable. -/
theorem annotationsFeedNothingBack : Obligations.AnnotationsFeedNothingBack := by
  intro s t t' ts x y z on hexec hexec'
  have same : (recordOf ts s).withoutUnits =
      (recordOf ts { s with cfg := { s.cfg with brX := x, brY := y, brZ := z, convEn := on } }).withoutUnits := by
    rw [recordOf_eq, recordOf_eq]
    rfl
  exact disable_out_congr _ hexec hexec' rfl same

end Sys2Proof.Machine
end

section
/-! A whole transaction (30_encoding.md R85), and the step over any type of timestamps (00_scope.md R6). -/

namespace Sys2Proof.Machine

/-! ## A whole transaction -/

/-- The cells of a list of bytes, from index 0 on. -/
def cellsOf (bs : List Byte) : Memory := bs.zipIdx.map fun p => (p.2, p.1)

/-- The open transaction of `s` at `t0` with these bytes received and these inputs to come. -/
def gathered (s : State) (t0 : Stamp) (mosi miso : List Byte) (rest : List Input) : State :=
  { s with
    fsm := .accumulating, bufMosi := cellsOf mosi, cntMosi := BitVec.ofNat 3 mosi.length, bufMiso := cellsOf miso
    cntMiso := BitVec.ofNat 3 miso.length, tStart := t0, out := none, inbox := rest }

/-- A byte after less than four others goes to the next cell. -/
theorem stored_cellsOf (b : Byte) {bs : List Byte} (h : bs.length < 4) :
    stored (some b) (BitVec.ofNat 3 bs.length) (cellsOf bs) = cellsOf (bs ++ [b]) := by
  have count : (BitVec.ofNat 3 bs.length).toNat = bs.length := Nat.mod_eq_of_lt (by omega)
  have above : ∀ c ∈ cellsOf bs, c.1 < bs.length := by
    intro c hc
    obtain ⟨p, hp, rfl⟩ := List.mem_map.mp hc
    exact List.snd_lt_of_mem_zipIdx hp
  rw [stored, count, if_pos h, write_above b above]
  simp [cellsOf, List.zipIdx_append]

theorem advanced_length (b : Byte) {bs : List Byte} (h : bs.length < 4) :
    advanced (some b) (BitVec.ofNat 3 bs.length) = BitVec.ofNat 3 (bs ++ [b]).length := by
  have count : (BitVec.ofNat 3 bs.length).toNat = bs.length := Nat.mod_eq_of_lt (by omega)
  rw [advanced, if_neg (by simp), count, if_pos h, List.length_append]
  exact (BitVec.ofNat_add bs.length 1).symm

theorem appendBoth_gathered (s : State) (t0 : Stamp) (a b : Byte) {mosi miso : List Byte} (rest : List Input)
    (hmosi : mosi.length < 4) (hmiso : miso.length < 4) :
    appendBoth (some a) (some b) (gathered s t0 mosi miso rest) =
      gathered s t0 (mosi ++ [a]) (miso ++ [b]) rest := by
  rw [appendBoth_eq]
  simp only [gathered, stored_cellsOf a hmosi, stored_cellsOf b hmiso, advanced_length a hmosi,
    advanced_length b hmiso]

/-- A RESULT of a byte pair inside a transaction (43_frame_assembler.md R165). -/
theorem step_gathered_result (s : State) (t0 : Stamp) (a b : Byte) {mosi miso : List Byte} (rest : List Input) :
    step (gathered s t0 mosi miso (.event (resultEvent t0 (some a) (some b)) :: rest)) =
      execResult t0 (some a) (some b) (gathered s t0 mosi miso rest) :=
  (stepRunsTheDecodedEvent (gathered s t0 mosi miso _) _ rest rfl).trans rfl

/-- A byte pair short of a frame, or with the early-finalize policy off, is only gathered. -/
theorem step_gathered_quiet (s : State) (t0 : Stamp) (a b : Byte) {mosi miso : List Byte} (rest : List Input)
    (hmosi : mosi.length < 4) (hmiso : miso.length < 4)
    (quiet : s.cfg.earlyFinalize = false ∨ mosi.length < 3 ∧ miso.length < 3) :
    step (gathered s t0 mosi miso (.event (resultEvent t0 (some a) (some b)) :: rest)) =
      .next (gathered s t0 (mosi ++ [a]) (miso ++ [b]) rest) := by
  have gather := appendBoth_gathered s t0 a b rest hmosi hmiso
  have not_firing : firesEarly (appendBoth (some a) (some b) (gathered s t0 mosi miso rest)) = false := by
    rw [Bool.eq_false_iff, ne_eq, firesEarly_appendBoth_iff, gather]
    rintro ⟨policy, full⟩
    rcases quiet with off | ⟨mosi_short, miso_short⟩
    · exact absurd (off.symm.trans policy) Bool.false_ne_true
    · simp only [gathered, List.length_append, List.length_singleton] at full
      rcases full with full | full <;> bv_omega
  rw [step_gathered_result, execResult_quiet _ _ _ _ not_firing, gather]
  rfl

theorem run_succ {M : Host.Core} {s t : M.State} (k : Nat) (h : M.step s = .next t) :
    M.run (k + 1) s = M.run k t := by
  rw [Host.Core.run, h]

theorem run_core_succ {s t : State} (k : Nat) (h : step s = .next t) :
    Host.Core.run core (k + 1) s = Host.Core.run core k t := run_succ (M := core) k h

/-- With the policy on, the fourth byte pair delivers the record and opens the next transaction. -/
theorem step_gathered_fires (s : State) (t0 : Stamp) (a b : Byte) {mosi miso : List Byte} (rest : List Input)
    (hmosi : mosi.length = 3) (hmiso : miso.length = 3) (policy : s.cfg.earlyFinalize = true) :
    step (gathered s t0 mosi miso (.event (resultEvent t0 (some a) (some b)) :: rest)) =
      .next (setOut (some (recordOf t0 (gathered s t0 (mosi ++ [a]) (miso ++ [b]) rest)))
        (gathered s t0 [] [] rest)) := by
  have gather := appendBoth_gathered s t0 a b rest (by omega : mosi.length < 4) (by omega : miso.length < 4)
  have fires : firesEarly (appendBoth (some a) (some b) (gathered s t0 mosi miso rest)) = true := by
    rw [firesEarly_appendBoth_iff, gather]
    refine ⟨policy, .inl ?_⟩
    rw [gathered, List.length_append, hmosi]
    rfl
  rw [step_gathered_result, execResult_fires _ _ _ _ fires, gather]
  rfl

/-- A DISABLE inside a transaction (43_frame_assembler.md R166). -/
theorem step_plain_disable {s : State} {t1 : Stamp} {rest : List Input} (busy : s.fsm = .accumulating)
    (hin : s.inbox = .event (plainEvent 2 t1) :: rest) :
    step s = execDisable t1 { s with inbox := rest } := by
  rw [stepRunsTheDecodedEvent s _ rest hin, busy]
  rfl

/-- Four gathered bytes of a frame assemble to it (20_memory.md R54). -/
theorem frameOf_gathered (s : State) (t0 : Stamp) (m f : Frame) (rest : List Input) :
    frameOf .mosi (gathered s t0 (bytesOfFrame m) (bytesOfFrame f) rest) = some m ∧
      frameOf .miso (gathered s t0 (bytesOfFrame m) (bytesOfFrame f) rest) = some f := by
  constructor
  · rw [frameOf_of_reads (side := .mosi) rfl rfl rfl rfl rfl, frameOfBytes_bytesOfFrame]
  · rw [frameOf_of_reads (side := .miso) rfl rfl rfl rfl rfl, frameOfBytes_bytesOfFrame]

/-- Up to the third byte pair a transaction is only gathered, whatever the policy. -/
theorem run_three_pairs {s : State} {t0 : Stamp} {a0 a1 a2 b0 b1 b2 : Byte} {rest : List Input} (k : Nat)
    (hin : s.inbox =
      .event (plainEvent 0 t0) :: .event (resultEvent t0 (some a0) (some b0)) ::
        .event (resultEvent t0 (some a1) (some b1)) :: .event (resultEvent t0 (some a2) (some b2)) :: rest) :
    Host.Core.run core (k + 4) s = Host.Core.run core k (gathered s t0 [a0, a1, a2] [b0, b1, b2] rest) := by
  have opened : step s = .next (gathered s t0 [] [] _) := step_of_kind_zero (ev := plainEvent 0 t0) rfl hin
  have first := step_gathered_quiet s t0 a0 b0 (mosi := []) (miso := [])
    (.event (resultEvent t0 (some a1) (some b1)) :: .event (resultEvent t0 (some a2) (some b2)) :: rest)
    (by simp) (by simp) (.inr (by simp))
  have second := step_gathered_quiet s t0 a1 b1 (mosi := [a0]) (miso := [b0])
    (.event (resultEvent t0 (some a2) (some b2)) :: rest) (by simp) (by simp) (.inr (by simp))
  have third := step_gathered_quiet s t0 a2 b2 (mosi := [a0, a1]) (miso := [b0, b1]) rest (by simp) (by simp)
    (.inr (by simp))
  exact (run_core_succ (k + 3) opened).trans <| (run_core_succ (k + 2) first).trans <|
    (run_core_succ (k + 1) second).trans (run_core_succ k third)

/-- The DISABLE that closes a gathered transaction of two whole frames delivers their record. -/
theorem step_gathered_disable (s : State) (t0 t1 : Stamp) (m f : Frame) (rest : List Input) :
    step (gathered s t0 (bytesOfFrame m) (bytesOfFrame f) (.event (plainEvent 2 t1) :: rest)) =
      .next (close (setOut (some (recordOf t1 (gathered s t0 (bytesOfFrame m) (bytesOfFrame f) rest)))
        (gathered s t0 (bytesOfFrame m) (bytesOfFrame f) rest))) :=
  (step_plain_disable rfl rfl).trans (execDisable_emits t1 _ (suppressed_eq_false (side := .mosi) rfl))

/-- A DISABLE of a transaction without bytes reports two length errors, or nothing (43_frame_assembler.md R166,
D10). -/
theorem execDisable_of_empty {s : State} {t1 : Stamp} (mosi : s.cntMosi = 0) (miso : s.cntMiso = 0) :
    ∃ t, execDisable t1 s = .next t ∧ t.fsm = .waitEnable ∧ t.inbox = s.inbox ∧
      (s.params.emptyFinalizeEmits = true →
        ∃ e, t.out = some e ∧ e.lenErrMosi = true ∧ e.lenErrMiso = true ∧ e.mosiFrame = none ∧
          e.misoFrame = none ∧ e.tStart = s.tStart ∧ e.tEnd = t1) ∧
      (s.params.emptyFinalizeEmits = false → t.out = none) := by
  have no_mosi : frameOf .mosi s = none := frameOf_eq_none (by rw [count_mosi, mosi]; decide)
  have no_miso : frameOf .miso s = none := frameOf_eq_none (by rw [count_miso, miso]; decide)
  cases policy : s.params.emptyFinalizeEmits with
  | true =>
    have emits : suppressed s = false := by simp [suppressed, policy]
    refine ⟨_, execDisable_emits t1 s emits, rfl, rfl, fun _ => ⟨recordOf t1 s, rfl, ?_⟩, fun h => (nomatch h)⟩
    rw [recordOf_eq, no_mosi, no_miso]
    exact ⟨rfl, rfl, rfl, rfl, rfl, rfl⟩
  | false =>
    have silent : suppressed s = true := (suppressed_eq_true_iff s).mpr ⟨policy, mosi, miso⟩
    exact ⟨_, execDisable_suppressed t1 s silent, rfl, rfl, fun h => (nomatch h), fun _ => rfl⟩

/-- Settles O50: three byte pairs are gathered; the fourth is gathered too and the DISABLE delivers the frames, or,
with the policy on, the fourth delivers them and the DISABLE meets an empty transaction. -/
theorem transactionDeliversItsFrames : Obligations.TransactionDeliversItsFrames := by
  intro s t0 t1 m f rest hin
  refine ⟨fun off => ?onDisable, fun on => ?onFourth⟩
  case onDisable =>
    have fourth := step_gathered_quiet s t0 (m.extractLsb' 0 8) (f.extractLsb' 0 8)
      (mosi := [m.extractLsb' 24 8, m.extractLsb' 16 8, m.extractLsb' 8 8])
      (miso := [f.extractLsb' 24 8, f.extractLsb' 16 8, f.extractLsb' 8 8])
      (.event (plainEvent 2 t1) :: rest) (by simp) (by simp) (.inl off)
    obtain ⟨hm, hf⟩ := frameOf_gathered s t0 m f rest
    refine ⟨_, _, (run_three_pairs 2 hin).trans <| (run_core_succ 1 fourth).trans <|
      run_core_succ 0 (step_gathered_disable s t0 t1 m f rest), rfl, ?_, ?_, recordOf_tStart .., recordOf_tEnd ..,
      rfl, rfl⟩
    · rw [recordOf_mosiFrame, hm]
    · rw [recordOf_misoFrame, hf]
  case onFourth =>
    obtain ⟨hm, hf⟩ := frameOf_gathered s t0 m f (.event (plainEvent 2 t1) :: rest)
    obtain ⟨r, hr⟩ : ∃ r, r = recordOf t0
        (gathered s t0 (bytesOfFrame m) (bytesOfFrame f) (.event (plainEvent 2 t1) :: rest)) := ⟨_, rfl⟩
    have fourth := step_gathered_fires s t0 (m.extractLsb' 0 8) (f.extractLsb' 0 8)
      (mosi := [m.extractLsb' 24 8, m.extractLsb' 16 8, m.extractLsb' 8 8])
      (miso := [f.extractLsb' 24 8, f.extractLsb' 16 8, f.extractLsb' 8 8])
      (.event (plainEvent 2 t1) :: rest) rfl rfl on
    obtain ⟨t, hdisable, idle, later, delivered, silent⟩ :=
      execDisable_of_empty (s := setOut (some r) (gathered s t0 [] [] rest)) (t1 := t1) rfl rfl
    have fifth : step (setOut (some r) (gathered s t0 [] [] (.event (plainEvent 2 t1) :: rest))) = .next t :=
      (step_plain_disable rfl rfl).trans hdisable
    subst hr
    refine ⟨_, _, t, (run_three_pairs 1 hin).trans (run_core_succ 0 fourth), rfl, ?_, ?_, recordOf_tStart ..,
      recordOf_tEnd .., rfl, (run_three_pairs 2 hin).trans <| (run_core_succ 1 fourth).trans (run_core_succ 0 fifth),
      idle, later, delivered, silent⟩
    · exact (recordOf_mosiFrame ..).trans hm
    · exact (recordOf_misoFrame ..).trans hf

/-! ## Timestamps -/

section
variable {TS US : Type} (f : TS → US)

/-- Over the model's own timestamps the row of an instruction is its arm of `exec`. -/
theorem execOver_eq_exec (i : Instr) (s : State) : execOver i s = exec i s := by
  cases i <;> rfl

theorem stepOver_eq_step (s : State) : stepOver s = step s := by
  rw [stepOver_eq, step_eq]
  match s.inbox with
  | [] => rfl
  | .construct c :: rest => rfl
  | .event ev :: rest => exact execOver_eq_exec (decodeEvent s.fsm ev) { s with inbox := rest }

theorem appendBoth_relabel (a b : Option Byte) (s : State TS) :
    appendBoth a b (s.relabel f) = (appendBoth a b s).relabel f := by
  rw [appendBoth_eq, appendBoth_eq]
  rfl

/-- A step's result and that of the renamed state correspond. -/
def Corresponds (x : Result TS) (y : Result US) : Prop := ∃ t, x = .next t ∧ y = .next (t.relabel f)

theorem execResult_relabel (ts : TS) (a b : Option Byte) (s : State TS) :
    Corresponds f (execResult ts a b s) (execResult (f ts) a b (s.relabel f)) := by
  have renamed := appendBoth_relabel f a b s
  cases h : firesEarly (appendBoth a b s) with
  | true =>
    refine ⟨_, execResult_fires ts a b s h, ?_⟩
    rw [execResult_fires (f ts) a b (s.relabel f) (by rw [renamed]; exact h), renamed, recordOf_relabel]
    rfl
  | false =>
    refine ⟨_, execResult_quiet ts a b s h, ?_⟩
    rw [execResult_quiet (f ts) a b (s.relabel f) (by rw [renamed]; exact h), renamed]
    rfl

theorem execDisable_relabel (ts : TS) (s : State TS) :
    Corresponds f (execDisable ts s) (execDisable (f ts) (s.relabel f)) := by
  cases h : suppressed s with
  | true => exact ⟨_, execDisable_suppressed ts s h, execDisable_suppressed (f ts) (s.relabel f) h⟩
  | false =>
    refine ⟨_, execDisable_emits ts s h, ?_⟩
    rw [execDisable_emits (f ts) (s.relabel f) h, recordOf_relabel]
    rfl

/-- An event with its timestamp renamed. -/
def relabelEvent (ev : Event TS) : Event US :=
  { kind := ev.kind, ts := f ev.ts, mosiValid := ev.mosiValid, mosi := ev.mosi, misoValid := ev.misoValid,
    miso := ev.miso }

/-- The row of the renamed event does to the renamed state what the row of the event does. -/
theorem execOver_decodeEvent_relabel (ev : Event TS) (s : State TS) :
    Corresponds f (execOver (decodeEvent s.fsm ev) s)
      (execOver (decodeEvent s.fsm (relabelEvent f ev)) (s.relabel f)) := by
  have kinds : ∀ k : BitVec 2, k = 0 ∨ k = 1 ∨ k = 2 ∨ k = 3 := by decide
  rcases kinds ev.kind with h | h | h | h
  · obtain ⟨idle, busy⟩ := decodeEvent_of_kind_zero h
    obtain ⟨idle', busy'⟩ := decodeEvent_of_kind_zero (ev := relabelEvent f ev) h
    cases s.fsm with
    | waitEnable => rw [idle, idle']; exact ⟨_, rfl, rfl⟩
    | accumulating => rw [busy, busy']; exact ⟨_, rfl, rfl⟩
  · obtain ⟨idle, busy⟩ := decodeEvent_of_kind_one h
    obtain ⟨idle', busy'⟩ := decodeEvent_of_kind_one (ev := relabelEvent f ev) h
    cases s.fsm with
    | waitEnable => rw [idle, idle']; exact ⟨_, rfl, rfl⟩
    | accumulating => rw [busy, busy']; exact execResult_relabel f ..
  · obtain ⟨idle, busy⟩ := decodeEvent_of_kind_two h
    obtain ⟨idle', busy'⟩ := decodeEvent_of_kind_two (ev := relabelEvent f ev) h
    cases s.fsm with
    | waitEnable => rw [idle, idle']; exact ⟨_, rfl, rfl⟩
    | accumulating => rw [busy, busy']; exact execDisable_relabel f ..
  · obtain ⟨idle, busy⟩ := decodeEvent_of_kind_three h
    obtain ⟨idle', busy'⟩ := decodeEvent_of_kind_three (ev := relabelEvent f ev) h
    cases s.fsm with
    | waitEnable => rw [idle, idle']; exact ⟨_, rfl, rfl⟩
    | accumulating => rw [busy, busy']; exact ⟨_, rfl, rfl⟩

theorem stepOver_relabel (s : State TS) : Corresponds f (stepOver s) (stepOver (s.relabel f)) := by
  rw [stepOver_eq, stepOver_eq, relabel_inbox]
  match s.inbox with
  | [] => exact ⟨_, rfl, rfl⟩
  | .construct c :: rest => exact ⟨_, rfl, rfl⟩
  | .event ev :: rest => exact execOver_decodeEvent_relabel f ev { s with inbox := rest }

end

/-- Settles O60: at `Stamp` the two steps are the same functions, and over any type each row passes its timestamps
through. -/
theorem timestampsAreOpaque : Obligations.TimestampsAreOpaque :=
  ⟨stepOver_eq_step, execOver_eq_exec, fun _ _ f s => stepOver_relabel f s⟩

end Sys2Proof.Machine
end

section
/-! The closed forms and the check of the CRC (41_crc4.md), sign extension (40_bit_utilities.md), the default table
(42_register_map.md) and the status flags (44_mode_decoders.md). -/

namespace Sys2Proof.Machine

/-! ## The CRC is affine -/

/-- One iteration is linear in the message bit and the register together (41_crc4.md R113 c). -/
theorem crcStep_xor : ∀ (x y : Bool) (r q : BitVec 4), crcStep (x ^^ y) (r ^^^ q) = crcStep x r ^^^ crcStep y q := by
  decide

theorem crcBits_xor (a b : Frame) (n : Nat) (r q : BitVec 4) :
    crcBits (a ^^^ b) n (r ^^^ q) = crcBits a n r ^^^ crcBits b n q := by
  induction n generalizing r q with
  | zero => rfl
  | succ n ih => rw [crcBits, crcBits, crcBits, BitVec.getLsbD_xor, crcStep_xor, ih]

theorem crcPayload_xor (a b : Frame) : crcPayload (a ^^^ b) = crcPayload a ^^^ crcPayload b := by
  ext i hi
  simp only [crcPayload, BitVec.getElem_and, BitVec.getElem_xor, Bool.and_xor_distrib_right]

/-- Settles O53: the register starts at `0xF`, which is `0xF ^^^ 0xF ^^^ 0xF`, so three linear runs add up. -/
theorem crcIsAffine : Obligations.CrcIsAffine := by
  intro a b
  have frames : crcPayload (a ^^^ b) = crcPayload a ^^^ crcPayload b ^^^ crcPayload 0 := by
    rw [crcPayload_xor]
    exact (BitVec.xor_zero).symm
  calc crc4Calc (a ^^^ b)
      = crcBits (crcPayload a ^^^ crcPayload b ^^^ crcPayload 0) 32 (0xF ^^^ 0xF ^^^ 0xF) := by
        rw [crc4Calc, frames]; rfl
    _ = crc4Calc a ^^^ crc4Calc b ^^^ crc4Calc 0 := by rw [crcBits_xor, crcBits_xor]; rfl

/-! ## The CRC is a polynomial remainder -/

/-- The low `n` bits of a message, in the width of the dividend. -/
def lowBits (p : Frame) (n : Nat) : BitVec 36 := (p.setWidth n).setWidth 36

/-- The dividend left when the register `r` has taken the bits of the message from `n` on: the register stands above
the bits not yet taken (41_crc4.md R113 b). -/
def dividend (p : Frame) (n : Nat) (r : BitVec 4) : BitVec 36 := (r.setWidth 36 <<< n) ^^^ (lowBits p n <<< 4)

theorem lowBits_succ (p : Frame) (n : Nat) :
    lowBits p (n + 1) = lowBits p n ^^^ ((BitVec.ofBool (p.getLsbD n)).setWidth 36 <<< n) := by
  ext i hi
  rcases Nat.lt_trichotomy i n with h | rfl | h
  · simp [lowBits, h, Nat.lt_succ_of_lt h]
  · simp [lowBits]
  · have above : i - n ≠ 0 := by omega
    simp [lowBits, h.not_gt, show ¬ i < n + 1 by omega, above]

/-- The register shifted up by one, with the message bit added at its new top: what one step of the division meets
above the bits not yet taken. -/
def topOf (bit : Bool) (r : BitVec 4) : BitVec 36 := (r.setWidth 36 <<< 1) ^^^ ((BitVec.ofBool bit).setWidth 36 <<< 4)

/-- Clearing the top bit by the divisor is one iteration of the CRC (41_crc4.md R111, R113 b). -/
theorem topOf_reduced : ∀ (bit : Bool) (r : BitVec 4),
    (if (topOf bit r).getLsbD 4 then topOf bit r ^^^ 0b10011#36 else topOf bit r) =
      (crcStep bit r).setWidth 36 := by decide

theorem dividend_succ (p : Frame) (n : Nat) (r : BitVec 4) :
    dividend p (n + 1) r = (topOf (p.getLsbD n) r <<< n) ^^^ (lowBits p n <<< 4) := by
  have shift (x : BitVec 36) (a b : Nat) : x <<< a <<< b = x <<< b <<< a := by
    rw [← BitVec.shiftLeft_add, ← BitVec.shiftLeft_add, Nat.add_comm]
  rw [dividend, lowBits_succ, topOf, BitVec.shiftLeft_xor_distrib, BitVec.shiftLeft_xor_distrib, Nat.add_comm n 1,
    BitVec.shiftLeft_add, shift _ 4 n]
  ac_rfl

/-- One step of the division takes one bit of the message. -/
theorem polyReduce_dividend_succ (p : Frame) {n : Nat} (h : n < 32) (r : BitVec 4) :
    polyReduce (n + 1) (dividend p (n + 1) r) = polyReduce n (dividend p n (crcStep (p.getLsbD n) r)) := by
  have top_bit : (dividend p (n + 1) r).getLsbD (n + 4) = (topOf (p.getLsbD n) r).getLsbD 4 := by
    rw [dividend_succ]
    simp [lowBits, show n + 4 < 36 by omega]
  rw [polyReduce, top_bit, dividend_succ, dividend, ← topOf_reduced]
  split
  · rw [BitVec.shiftLeft_xor_distrib]
    ac_rfl
  · rfl

/-- The division of what is left gives the CRC of what is left (41_crc4.md R113 b). -/
theorem polyReduce_dividend (p : Frame) {n : Nat} (h : n ≤ 32) (r : BitVec 4) :
    (polyReduce n (dividend p n r)).extractLsb' 0 4 = crcBits p n r := by
  induction n generalizing r with
  | zero =>
    ext i hi
    simp [polyReduce, dividend, lowBits, crcBits, show i < 36 by omega, BitVec.getLsbD_eq_getElem hi]
  | succ n ih =>
    rw [polyReduce_dividend_succ p h, ih (by omega), crcBits]

/-- The whole dividend has the start value of the register above the whole message. -/
theorem dividend_whole (p : Frame) : dividend p 32 0xF = (0xF#4 ++ 0#32) ^^^ (p ++ 0#4) := by
  have message : lowBits p 32 <<< 4 = p ++ 0#4 := by
    apply BitVec.eq_of_getLsbD_eq
    intro i hi
    rw [BitVec.getLsbD_append]
    by_cases low : i < 4
    · simp [low]
    · simp [lowBits, low, hi]
  rw [dividend, message]
  rfl

/-- Settles O54: the division takes the message bit by bit, as the CRC does. -/
theorem crcIsAPolynomialRemainder : Obligations.CrcIsAPolynomialRemainder := by
  intro f
  rw [polyRemainder, ← dividend_whole, polyReduce_dividend _ (Nat.le_refl 32)]
  rfl

/-! ## The CRC check -/

theorem crcCheck_ok_iff (f : Frame) : (crcCheck f).status = .ok ↔ f.extractLsb' 0 4 = crc4Calc f := by
  have ok_iff (agree : Prop) [Decidable agree] : (if agree then CrcStatus.ok else .error) = .ok ↔ agree := by
    split <;> simp [*]
  rw [eq_comm (a := f.extractLsb' 0 4)]
  exact ok_iff (crc4Calc f = f.extractLsb' 0 4)

/-- The CRC of a frame is that of its upper 28 bits (41_crc4.md R110). -/
theorem crc4Calc_append (p : BitVec 28) (k : BitVec 4) : crc4Calc (p ++ k) = crc4Calc (p ++ 0#4) := by
  have payload (k : BitVec 4) : crcPayload (p ++ k) = p ++ 0#4 := by
    calc (p ++ k) &&& (BitVec.allOnes 28 ++ 0#4) = (p &&& BitVec.allOnes 28) ++ (k &&& 0#4) := BitVec.and_append
      _ = p ++ 0#4 := by rw [BitVec.and_allOnes, BitVec.and_zero]
  rw [crc4Calc, crc4Calc, payload, payload]

/-- A frame passes the check exactly with its own CRC in its low nibble. -/
theorem crcCheck_append_ok_iff (p : BitVec 28) (k : BitVec 4) :
    (crcCheck (p ++ k)).status = .ok ↔ k = crc4Calc (p ++ 0#4) := by
  rw [crcCheck_ok_iff, crc4Calc_append]
  exact Eq.congr_left BitVec.extractLsb'_append_eq_right

/-- Settles O52: the nibble that passes is the CRC of the upper 28 bits. -/
theorem crcCheckAcceptsExactlyOneNibble : Obligations.CrcCheckAcceptsExactlyOneNibble := by
  refine ⟨crcCheck_ok_iff, fun p => (crcCheck_append_ok_iff p _).mpr rfl, fun p => ?_⟩
  exact ⟨crc4Calc (p ++ 0#4), (crcCheck_append_ok_iff p _).mpr rfl, fun k => (crcCheck_append_ok_iff p k).mp⟩

/-! ## Sign extension -/

theorem signExtend_eq_none_iff (v : Nat) (w n : Int) : signExtend v w n = none ↔ w ≤ 0 ∨ n ≤ 0 ∨ n < w := by
  constructor
  · intro h
    by_contra in_contract
    have some_value := signExtend_isSome v w n (by omega)
    rw [h] at some_value
    cases some_value
  · intro out_of_contract
    exact if_pos out_of_contract

/-- Bits above the field are ignored (D26). -/
theorem signExtend_mod (v w : Nat) (n : Int) : signExtend (v % 2 ^ w) w n = signExtend v w n := by
  simp only [signExtend, Int.toNat_natCast, Nat.mod_mod]

/-- In contract, sign extension reads the field as a word of its width. -/
theorem signExtend_eq (v : Nat) {w : Nat} {n : Int} (hpos : 1 ≤ w) (hle : (w : Int) ≤ n) :
    signExtend v w n = some (BitVec.ofNat w v).toInt := by
  rw [← signExtend_mod, ← BitVec.toNat_ofNat, signExtend_toNat _ hpos hle]

/-- Settles O56: in contract the result is the two's complement value of the field, which has its range and is what
it was made from. -/
theorem signExtendRoundTrips : Obligations.SignExtendRoundTrips := by
  refine ⟨signExtend_eq_none_iff, fun w x hpos hle lower upper => ?roundTrip, fun v w n x hx => ?range⟩
  case roundTrip =>
    have field : (x % 2 ^ w).toNat = (BitVec.ofInt w x).toNat := by simp
    rw [field, signExtend_toNat _ hpos (by omega), BitVec.toInt_ofInt_eq_self (by omega) lower upper]
  case range =>
    have in_contract : ¬ ((w : Int) ≤ 0 ∨ n ≤ 0 ∨ n < w) := by
      rw [← signExtend_eq_none_iff v, hx]
      exact Option.some_ne_none x
    have value := signExtend_eq v (w := w) (n := n) (by omega) (by omega)
    obtain rfl := Option.some.inj (hx.symm.trans value)
    exact ⟨BitVec.le_toInt _, BitVec.toInt_lt, (signExtend_mod v w n).trans hx⟩

/-! ## The default table and the status flags -/

/-- Settles O58: the table is computed. -/
theorem defaultTableCoversEveryBitOnce : Obligations.DefaultTableCoversEveryBitOnce := by
  refine ⟨rfl, rfl, ?_⟩
  decide

/-- Settles O59: bit `i` of the upper byte is bit `24 + i` of the frame. -/
theorem statusByteFlagsInListingOrder : Obligations.StatusByteFlagsInListingOrder := by
  intro f
  simp only [stat8Flags, BitVec.getLsbD_extractLsb']
  rfl

end Sys2Proof.Machine
end
